-- ==== Sys2Proof/Word.lean ====
section
/-! DEFINITION. The word types of the interface (R7, R8, R10): every datum is an unsigned 8-bit byte, a port number has 16 bits,
a linear address 32. -/

namespace Sys2Proof

/-- `u8`: the only datum any operation moves (R81). -/
abbrev Byte := BitVec 8

/-- `u16`: a port number (R8). -/
abbrev Port := BitVec 16

/-- `u32`: a CPU-visible linear address (R8). -/
abbrev Addr := BitVec 32

end Sys2Proof
end

