-- ==== Sys2Proof/Config.lean ====
section
/-! DEFINITION. What is fixed for one machine (R8, R9) and the values the spec leaves open (R11 `draw`, R51, R364).
Every number marked `gk` in the spec is DESIGN CHOICE of the spec's own layout (log entries 2, 3, 4); the opaque constants have
no body, so nothing can be proved of their values (log entries 5 and 6). -/

namespace Sys2Proof

/-- The 14 ports the block gives a meaning to (R9), by the spec's names. -/
inductive PortName where
  | acIndexData | acRead | miscWrite | seqIndex | seqData | dacReadIndex | dacWriteIndex | dacData | miscRead
  | gcIndex | gcData | crtcIndex | crtcData | status
  deriving DecidableEq, Repr

/-- The 14 port names in the order of R9's table. -/
def PortName.all : List PortName :=
  [.acIndexData, .acRead, .miscWrite, .seqIndex, .seqData, .dacReadIndex, .dacWriteIndex, .dacData, .miscRead,
   .gcIndex, .gcData, .crtcIndex, .crtcData, .status]

/-- The geometry a surface is allocated with: text or graphics, width, height (R266). -/
structure Geometry where
  isText : Bool
  width  : Nat
  height : Nat
  deriving DecidableEq, Repr

/-- The two readings of the Shift-256 4-bit pixel map (R301, U4). -/
inductive Shift256Map where
  | byteIndex | planeIndex
  deriving DecidableEq, Repr

/-- What a translated offset of `BANK_SIZE` or more does (R93, U6). -/
inductive OffsetOverflow where
  | wrap | premise
  deriving DecidableEq, Repr

namespace Config

/-- Register counts of the four indexed groups (R9, decision D2). -/
abbrev seqCount : Nat := 5
abbrev gcCount : Nat := 9
abbrev crtcCount : Nat := 25
abbrev acCount : Nat := 21

/-- `NUM_PLANES` (R8). -/
abbrev numPlanes : Nat := 4
/-- `BANK_SIZE` in bytes (R8). -/
abbrev bankSize : Nat := 65536
/-- `PALETTE_SIZE` in bytes (R8). -/
abbrev paletteSize : Nat := 768
/-- `STRIDE_MUL`: the scanline multiplier, "a hardware constant, not user-configurable" (R8). -/
abbrev strideMul : Nat := 2
/-- `NUM_WINDOWS` (R8). -/
abbrev numWindows : Nat := 4

/-- The port numbers of R9's table (decision D1). -/
def portNumber : PortName → Port
  | .acIndexData   => 0x3C0
  | .acRead        => 0x3C1
  | .miscWrite     => 0x3C2
  | .seqIndex      => 0x3C4
  | .seqData       => 0x3C5
  | .dacReadIndex  => 0x3C7
  | .dacWriteIndex => 0x3C8
  | .dacData       => 0x3C9
  | .miscRead      => 0x3CC
  | .gcIndex       => 0x3CE
  | .gcData        => 0x3CF
  | .crtcIndex     => 0x3D4
  | .crtcData      => 0x3D5
  | .status        => 0x3DA

/-- The four windows as (base, limit), the limit inclusive (R9, R87, decision D6). -/
def window : Fin numWindows → Nat × Nat
  | 0 => (0xA0000, 0xBFFFF)
  | 1 => (0xA0000, 0xAFFFF)
  | 2 => (0xB0000, 0xB7FFF)
  | 3 => (0xB8000, 0xBFFFF)

/-- "display disabled" in the status byte (R220, decision D14). -/
def statusDD : Byte := 0x01
/-- "vertical retrace" in the status byte (R220, decision D14). -/
def statusVR : Byte := 0x08

/-- `SHIFT256_4_MAP`, at the spec's default (R301, decision D23). -/
def shift256Map : Shift256Map := .byteIndex
/-- `OFFSET_OVERFLOW`, at the spec's default (R93, U6, decision D8). -/
def offsetOverflow : OffsetOverflow := .wrap

/-- `draw u8` (R11): the `n`-th byte the rules do not determine (R127, R207; U1, U3). -/
opaque openByte : Nat → Byte
/-- `draw` of a cursor position (row, column): the `n`-th one the rules do not determine (R338 (c), U5). -/
opaque openPosition : Nat → Nat × Nat
/-- `alloc_ok` (R364, U10): the environment's answer to the `n`-th open question, whether a surface of this geometry can be
allocated. -/
opaque allocOk : Nat → Geometry → Bool

end Config

end Sys2Proof
end

