-- ==== Sys2Proof/Syntax.lean ====
section
/-! DEFINITION. The operations of the block (R7, R120): one constructor per row of spec/opcode_table.json, in the table's order.
R133: the first 28 rows are the (port, direction) pairs of R121, the next 120 the data accesses to one register of an indexed
group, "selected when the port matches and the named index register holds" its number, the last 11 the memory operations and
the calls. -/

namespace Sys2Proof

/-- The register-state seed of `LoadSeed` (R396): misc, seq[0..4], gc[0..8], crtc[0..24], ac[0..20]. -/
structure Seed where
  misc : Byte
  seq  : Vector Byte Config.seqCount
  gc   : Vector Byte Config.gcCount
  crtc : Vector Byte Config.crtcCount
  ac   : Vector Byte Config.acCount
  deriving DecidableEq, Repr

/-- The operation set. A port write carries the byte written; `memw` its address and bytes; `memr` its address, length and the
caller's buffer before the call; `surf` nothing for the whole surface or a row and a column for one element (R336); `seed` the
seed. -/
inductive Instr where
  /-- OUT PORT_AC_INDEX_DATA: R180 -/
  | outPortAcIndexData (v : Byte)
  /-- IN PORT_AC_INDEX_DATA: R183 -/
  | inPortAcIndexData
  /-- OUT PORT_AC_READ: R127 -/
  | outPortAcRead (v : Byte)
  /-- IN PORT_AC_READ: R184 -/
  | inPortAcRead
  /-- OUT PORT_MISC_WRITE: R200 -/
  | outPortMiscWrite (v : Byte)
  /-- IN PORT_MISC_WRITE: R127 -/
  | inPortMiscWrite
  /-- OUT PORT_SEQ_INDEX: R150 -/
  | outPortSeqIndex (v : Byte)
  /-- IN PORT_SEQ_INDEX: R151 -/
  | inPortSeqIndex
  /-- OUT PORT_SEQ_DATA: R152 -/
  | outPortSeqData (v : Byte)
  /-- IN PORT_SEQ_DATA: R153 -/
  | inPortSeqData
  /-- OUT PORT_DAC_READ_INDEX: R203 -/
  | outPortDacReadIndex (v : Byte)
  /-- IN PORT_DAC_READ_INDEX: R127 -/
  | inPortDacReadIndex
  /-- OUT PORT_DAC_WRITE_INDEX: R204 -/
  | outPortDacWriteIndex (v : Byte)
  /-- IN PORT_DAC_WRITE_INDEX: R205 -/
  | inPortDacWriteIndex
  /-- OUT PORT_DAC_DATA: R206 -/
  | outPortDacData (v : Byte)
  /-- IN PORT_DAC_DATA: R207 -/
  | inPortDacData
  /-- OUT PORT_MISC_READ: R127 -/
  | outPortMiscRead (v : Byte)
  /-- IN PORT_MISC_READ: R201 -/
  | inPortMiscRead
  /-- OUT PORT_GC_INDEX: R160 -/
  | outPortGcIndex (v : Byte)
  /-- IN PORT_GC_INDEX: R161 -/
  | inPortGcIndex
  /-- OUT PORT_GC_DATA: R162 -/
  | outPortGcData (v : Byte)
  /-- IN PORT_GC_DATA: R164 -/
  | inPortGcData
  /-- OUT PORT_CRTC_INDEX: R170 -/
  | outPortCrtcIndex (v : Byte)
  /-- IN PORT_CRTC_INDEX: R171 -/
  | inPortCrtcIndex
  /-- OUT PORT_CRTC_DATA: R174 -/
  | outPortCrtcData (v : Byte)
  /-- IN PORT_CRTC_DATA: R175 -/
  | inPortCrtcData
  /-- OUT PORT_STATUS: R221 -/
  | outPortStatus (v : Byte)
  /-- IN PORT_STATUS: R220 -/
  | inPortStatus
  /-- SEQ[0] write (SEQ_RESET): R152 -/
  | writeSeqReset (v : Byte)
  /-- SEQ[0] read (SEQ_RESET): R153 -/
  | readSeqReset
  /-- SEQ[1] write (SEQ_CLOCK): R152 -/
  | writeSeqClock (v : Byte)
  /-- SEQ[1] read (SEQ_CLOCK): R153 -/
  | readSeqClock
  /-- SEQ[2] write (SEQ_MAP_MASK): R152 -/
  | writeSeqMapMask (v : Byte)
  /-- SEQ[2] read (SEQ_MAP_MASK): R153 -/
  | readSeqMapMask
  /-- SEQ[3] write (SEQ_CHAR_MAP): R152 -/
  | writeSeqCharMap (v : Byte)
  /-- SEQ[3] read (SEQ_CHAR_MAP): R153 -/
  | readSeqCharMap
  /-- SEQ[4] write (SEQ_MEM): R152 -/
  | writeSeqMem (v : Byte)
  /-- SEQ[4] read (SEQ_MEM): R153 -/
  | readSeqMem
  /-- GC[0] write (GC_SET_RESET): R162 -/
  | writeGcSetReset (v : Byte)
  /-- GC[0] read (GC_SET_RESET): R164 -/
  | readGcSetReset
  /-- GC[1] write (GC_ENABLE_SET_RESET): R162 -/
  | writeGcEnableSetReset (v : Byte)
  /-- GC[1] read (GC_ENABLE_SET_RESET): R164 -/
  | readGcEnableSetReset
  /-- GC[2] write (GC_COLOR_COMPARE): R162 -/
  | writeGcColorCompare (v : Byte)
  /-- GC[2] read (GC_COLOR_COMPARE): R164 -/
  | readGcColorCompare
  /-- GC[3] write (GC_ROTATE): R162 -/
  | writeGcRotate (v : Byte)
  /-- GC[3] read (GC_ROTATE): R164 -/
  | readGcRotate
  /-- GC[4] write (GC_READ_MAP): R162 -/
  | writeGcReadMap (v : Byte)
  /-- GC[4] read (GC_READ_MAP): R164 -/
  | readGcReadMap
  /-- GC[5] write (GC_MODE): R162 -/
  | writeGcMode (v : Byte)
  /-- GC[5] read (GC_MODE): R164 -/
  | readGcMode
  /-- GC[6] write (GC_MISC): R163 -/
  | writeGcMisc (v : Byte)
  /-- GC[6] read (GC_MISC): R164 -/
  | readGcMisc
  /-- GC[7] write (GC_DONT_CARE): R162 -/
  | writeGcDontCare (v : Byte)
  /-- GC[7] read (GC_DONT_CARE): R164 -/
  | readGcDontCare
  /-- GC[8] write (GC_BIT_MASK): R162 -/
  | writeGcBitMask (v : Byte)
  /-- GC[8] read (GC_BIT_MASK): R164 -/
  | readGcBitMask
  /-- CRTC[0x00] write (CRTC_HORZ_TOTAL): R174 -/
  | writeCrtcHorzTotal (v : Byte)
  /-- CRTC[0x00] read (CRTC_HORZ_TOTAL): R175 -/
  | readCrtcHorzTotal
  /-- CRTC[0x01] write (CRTC_END_HORZ_DISP): R174 -/
  | writeCrtcEndHorzDisp (v : Byte)
  /-- CRTC[0x01] read (CRTC_END_HORZ_DISP): R175 -/
  | readCrtcEndHorzDisp
  /-- CRTC[0x02] write (CRTC_START_HORZ_BLANK): R174 -/
  | writeCrtcStartHorzBlank (v : Byte)
  /-- CRTC[0x02] read (CRTC_START_HORZ_BLANK): R175 -/
  | readCrtcStartHorzBlank
  /-- CRTC[0x03] write (CRTC_END_HORZ_BLANK): R174 -/
  | writeCrtcEndHorzBlank (v : Byte)
  /-- CRTC[0x03] read (CRTC_END_HORZ_BLANK): R175 -/
  | readCrtcEndHorzBlank
  /-- CRTC[0x04] write (CRTC_START_HORZ_RETRACE): R174 -/
  | writeCrtcStartHorzRetrace (v : Byte)
  /-- CRTC[0x04] read (CRTC_START_HORZ_RETRACE): R175 -/
  | readCrtcStartHorzRetrace
  /-- CRTC[0x05] write (CRTC_END_HORZ_RETRACE): R174 -/
  | writeCrtcEndHorzRetrace (v : Byte)
  /-- CRTC[0x05] read (CRTC_END_HORZ_RETRACE): R175 -/
  | readCrtcEndHorzRetrace
  /-- CRTC[0x06] write (CRTC_VERT_TOTAL): R174 -/
  | writeCrtcVertTotal (v : Byte)
  /-- CRTC[0x06] read (CRTC_VERT_TOTAL): R175 -/
  | readCrtcVertTotal
  /-- CRTC[0x07] write (CRTC_OVERFLOW): R174 -/
  | writeCrtcOverflow (v : Byte)
  /-- CRTC[0x07] read (CRTC_OVERFLOW): R175 -/
  | readCrtcOverflow
  /-- CRTC[0x08] write (CRTC_PRESET_ROW_SCAN): R174 -/
  | writeCrtcPresetRowScan (v : Byte)
  /-- CRTC[0x08] read (CRTC_PRESET_ROW_SCAN): R175 -/
  | readCrtcPresetRowScan
  /-- CRTC[0x09] write (CRTC_MAX_SCAN): R174 -/
  | writeCrtcMaxScan (v : Byte)
  /-- CRTC[0x09] read (CRTC_MAX_SCAN): R175 -/
  | readCrtcMaxScan
  /-- CRTC[0x0A] write (CRTC_CURSOR_START): R174 -/
  | writeCrtcCursorStart (v : Byte)
  /-- CRTC[0x0A] read (CRTC_CURSOR_START): R175 -/
  | readCrtcCursorStart
  /-- CRTC[0x0B] write (CRTC_CURSOR_END): R174 -/
  | writeCrtcCursorEnd (v : Byte)
  /-- CRTC[0x0B] read (CRTC_CURSOR_END): R175 -/
  | readCrtcCursorEnd
  /-- CRTC[0x0C] write (CRTC_START_HIGH): R174 -/
  | writeCrtcStartHigh (v : Byte)
  /-- CRTC[0x0C] read (CRTC_START_HIGH): R175 -/
  | readCrtcStartHigh
  /-- CRTC[0x0D] write (CRTC_START_LOW): R174 -/
  | writeCrtcStartLow (v : Byte)
  /-- CRTC[0x0D] read (CRTC_START_LOW): R175 -/
  | readCrtcStartLow
  /-- CRTC[0x0E] write (CRTC_CURSOR_LOC_HIGH): R174 -/
  | writeCrtcCursorLocHigh (v : Byte)
  /-- CRTC[0x0E] read (CRTC_CURSOR_LOC_HIGH): R175 -/
  | readCrtcCursorLocHigh
  /-- CRTC[0x0F] write (CRTC_CURSOR_LOC_LOW): R174 -/
  | writeCrtcCursorLocLow (v : Byte)
  /-- CRTC[0x0F] read (CRTC_CURSOR_LOC_LOW): R175 -/
  | readCrtcCursorLocLow
  /-- CRTC[0x10] write (CRTC_VERT_RETRACE_START): R174 -/
  | writeCrtcVertRetraceStart (v : Byte)
  /-- CRTC[0x10] read (CRTC_VERT_RETRACE_START): R175 -/
  | readCrtcVertRetraceStart
  /-- CRTC[0x11] write (CRTC_VERT_RETRACE_END): R174 -/
  | writeCrtcVertRetraceEnd (v : Byte)
  /-- CRTC[0x11] read (CRTC_VERT_RETRACE_END): R175 -/
  | readCrtcVertRetraceEnd
  /-- CRTC[0x12] write (CRTC_VERT_DISP_END): R174 -/
  | writeCrtcVertDispEnd (v : Byte)
  /-- CRTC[0x12] read (CRTC_VERT_DISP_END): R175 -/
  | readCrtcVertDispEnd
  /-- CRTC[0x13] write (CRTC_OFFSET): R174 -/
  | writeCrtcOffset (v : Byte)
  /-- CRTC[0x13] read (CRTC_OFFSET): R175 -/
  | readCrtcOffset
  /-- CRTC[0x14] write (CRTC_UNDERLINE): R174 -/
  | writeCrtcUnderline (v : Byte)
  /-- CRTC[0x14] read (CRTC_UNDERLINE): R175 -/
  | readCrtcUnderline
  /-- CRTC[0x15] write (CRTC_START_VERT_BLANK): R174 -/
  | writeCrtcStartVertBlank (v : Byte)
  /-- CRTC[0x15] read (CRTC_START_VERT_BLANK): R175 -/
  | readCrtcStartVertBlank
  /-- CRTC[0x16] write (CRTC_END_VERT_BLANK): R174 -/
  | writeCrtcEndVertBlank (v : Byte)
  /-- CRTC[0x16] read (CRTC_END_VERT_BLANK): R175 -/
  | readCrtcEndVertBlank
  /-- CRTC[0x17] write (CRTC_MODE): R174 -/
  | writeCrtcMode (v : Byte)
  /-- CRTC[0x17] read (CRTC_MODE): R175 -/
  | readCrtcMode
  /-- CRTC[0x18] write (CRTC_LINE_COMPARE): R174 -/
  | writeCrtcLineCompare (v : Byte)
  /-- CRTC[0x18] read (CRTC_LINE_COMPARE): R175 -/
  | readCrtcLineCompare
  /-- AC[0x00] write (AC_PAL_0): R180 -/
  | writeAcPal0 (v : Byte)
  /-- AC[0x00] read (AC_PAL_0): R184 -/
  | readAcPal0
  /-- AC[0x01] write (AC_PAL_1): R180 -/
  | writeAcPal1 (v : Byte)
  /-- AC[0x01] read (AC_PAL_1): R184 -/
  | readAcPal1
  /-- AC[0x02] write (AC_PAL_2): R180 -/
  | writeAcPal2 (v : Byte)
  /-- AC[0x02] read (AC_PAL_2): R184 -/
  | readAcPal2
  /-- AC[0x03] write (AC_PAL_3): R180 -/
  | writeAcPal3 (v : Byte)
  /-- AC[0x03] read (AC_PAL_3): R184 -/
  | readAcPal3
  /-- AC[0x04] write (AC_PAL_4): R180 -/
  | writeAcPal4 (v : Byte)
  /-- AC[0x04] read (AC_PAL_4): R184 -/
  | readAcPal4
  /-- AC[0x05] write (AC_PAL_5): R180 -/
  | writeAcPal5 (v : Byte)
  /-- AC[0x05] read (AC_PAL_5): R184 -/
  | readAcPal5
  /-- AC[0x06] write (AC_PAL_6): R180 -/
  | writeAcPal6 (v : Byte)
  /-- AC[0x06] read (AC_PAL_6): R184 -/
  | readAcPal6
  /-- AC[0x07] write (AC_PAL_7): R180 -/
  | writeAcPal7 (v : Byte)
  /-- AC[0x07] read (AC_PAL_7): R184 -/
  | readAcPal7
  /-- AC[0x08] write (AC_PAL_8): R180 -/
  | writeAcPal8 (v : Byte)
  /-- AC[0x08] read (AC_PAL_8): R184 -/
  | readAcPal8
  /-- AC[0x09] write (AC_PAL_9): R180 -/
  | writeAcPal9 (v : Byte)
  /-- AC[0x09] read (AC_PAL_9): R184 -/
  | readAcPal9
  /-- AC[0x0A] write (AC_PAL_10): R180 -/
  | writeAcPal10 (v : Byte)
  /-- AC[0x0A] read (AC_PAL_10): R184 -/
  | readAcPal10
  /-- AC[0x0B] write (AC_PAL_11): R180 -/
  | writeAcPal11 (v : Byte)
  /-- AC[0x0B] read (AC_PAL_11): R184 -/
  | readAcPal11
  /-- AC[0x0C] write (AC_PAL_12): R180 -/
  | writeAcPal12 (v : Byte)
  /-- AC[0x0C] read (AC_PAL_12): R184 -/
  | readAcPal12
  /-- AC[0x0D] write (AC_PAL_13): R180 -/
  | writeAcPal13 (v : Byte)
  /-- AC[0x0D] read (AC_PAL_13): R184 -/
  | readAcPal13
  /-- AC[0x0E] write (AC_PAL_14): R180 -/
  | writeAcPal14 (v : Byte)
  /-- AC[0x0E] read (AC_PAL_14): R184 -/
  | readAcPal14
  /-- AC[0x0F] write (AC_PAL_15): R180 -/
  | writeAcPal15 (v : Byte)
  /-- AC[0x0F] read (AC_PAL_15): R184 -/
  | readAcPal15
  /-- AC[0x10] write (AC_MODE): R180 -/
  | writeAcMode (v : Byte)
  /-- AC[0x10] read (AC_MODE): R184 -/
  | readAcMode
  /-- AC[0x11] write (AC_OVERSCAN): R180 -/
  | writeAcOverscan (v : Byte)
  /-- AC[0x11] read (AC_OVERSCAN): R184 -/
  | readAcOverscan
  /-- AC[0x12] write (AC_PLANE_ENABLE): R180 -/
  | writeAcPlaneEnable (v : Byte)
  /-- AC[0x12] read (AC_PLANE_ENABLE): R184 -/
  | readAcPlaneEnable
  /-- AC[0x13] write (AC_PANNING): R180 -/
  | writeAcPanning (v : Byte)
  /-- AC[0x13] read (AC_PANNING): R184 -/
  | readAcPanning
  /-- AC[0x14] write (AC_COLOR_SELECT): R180 -/
  | writeAcColorSelect (v : Byte)
  /-- AC[0x14] read (AC_COLOR_SELECT): R184 -/
  | readAcColorSelect
  /-- MEMW: R243 -/
  | memw (address : Addr) (bytes : List Byte)
  /-- MEMR: R247 -/
  | memr (address : Addr) (length : Nat) (buf : List Byte)
  /-- REFRESH: R280 -/
  | refresh
  /-- HRETRACE: R224 -/
  | hretrace
  /-- VRETRACE: R225 -/
  | vretrace
  /-- RES: R330 -/
  | res
  /-- ISTEXT: R331 -/
  | istext
  /-- TAKEDIRTY: R334 -/
  | takedirty
  /-- SURF: R336 -/
  | surf (at? : Option (Nat × Nat))
  /-- CURSOR: R338 -/
  | cursor
  /-- SEED: R396 -/
  | seed (s : Seed)
  deriving DecidableEq, Repr

/-- Why a byte sequence is not an operation of the block. -/
inductive DecodeError where
  /-- the bytes end inside an operation -/
  | truncated
  /-- a port access to none of the 14 ports (R128) -/
  | unclaimedPort (p : Port)
  /-- a 16-bit or 32-bit port access (R84) -/
  | widePortAccess (p : Port)
  /-- a form byte that names no format of R120, or an operand no operation has -/
  | malformed
  deriving DecidableEq, Repr

end Sys2Proof
end

