-- ==== Sys2Proof/WellFormed.lean ====
section
/-! DEFINITION. The checks on an operation's operands that its type does not already carry (R120). Sizes of a seed, widths of
ports, addresses and bytes, and register numbers are carried by the types. -/

namespace Sys2Proof

/-- R120, format `MR`: the caller's buffer is a "list u8 of that length". Every other operand is accepted at every value (R12). -/
def Instr.wellFormed : Instr → Bool
  | .memr _ length buf => buf.length == length
  | _ => true

end Sys2Proof
end

