-- ==== Sys2Proof/Decode.lean ====
section
/-! DEFINITION. Decoding and encoding of operations. R132: the source "defines no binary encoding of operations"; the byte form
here is the model's own transport of R120's fields (DESIGN CHOICE, log entry 1): the port number low byte first (the field the
table's `match` gives, in bits 15..0), a form byte for R120's format and direction, then the operands. -/

namespace Sys2Proof

/-- First-level decode (R121): the match is on all 16 bits, with no aliasing. -/
def portNamed (p : Port) : Option PortName :=
  PortName.all.find? fun n => Config.portNumber n == p

/-- The operation `WritePort(port, v)` of R121's table. -/
def portWrite : PortName → Byte → Instr
  | .acIndexData, v => .outPortAcIndexData v
  | .acRead, v => .outPortAcRead v
  | .miscWrite, v => .outPortMiscWrite v
  | .seqIndex, v => .outPortSeqIndex v
  | .seqData, v => .outPortSeqData v
  | .dacReadIndex, v => .outPortDacReadIndex v
  | .dacWriteIndex, v => .outPortDacWriteIndex v
  | .dacData, v => .outPortDacData v
  | .miscRead, v => .outPortMiscRead v
  | .gcIndex, v => .outPortGcIndex v
  | .gcData, v => .outPortGcData v
  | .crtcIndex, v => .outPortCrtcIndex v
  | .crtcData, v => .outPortCrtcData v
  | .status, v => .outPortStatus v

/-- The operation `ReadPort(port)` of R121's table. -/
def portRead : PortName → Instr
  | .acIndexData => .inPortAcIndexData
  | .acRead => .inPortAcRead
  | .miscWrite => .inPortMiscWrite
  | .seqIndex => .inPortSeqIndex
  | .seqData => .inPortSeqData
  | .dacReadIndex => .inPortDacReadIndex
  | .dacWriteIndex => .inPortDacWriteIndex
  | .dacData => .inPortDacData
  | .miscRead => .inPortMiscRead
  | .gcIndex => .inPortGcIndex
  | .gcData => .inPortGcData
  | .crtcIndex => .inPortCrtcIndex
  | .crtcData => .inPortCrtcData
  | .status => .inPortStatus

/-- The write rows of the SEQ registers in index order (R133). -/
def seqWriteRow (i : Fin Config.seqCount) (v : Byte) : Instr :=
  (#v[Instr.writeSeqReset, Instr.writeSeqClock, Instr.writeSeqMapMask, Instr.writeSeqCharMap, Instr.writeSeqMem] : Vector (Byte → Instr) Config.seqCount)[i] v

/-- The read rows of the SEQ registers in index order (R133). -/
def seqReadRow (i : Fin Config.seqCount) : Instr :=
  (#v[Instr.readSeqReset, Instr.readSeqClock, Instr.readSeqMapMask, Instr.readSeqCharMap, Instr.readSeqMem] : Vector Instr Config.seqCount)[i]

/-- The write rows of the GC registers in index order (R133). -/
def gcWriteRow (i : Fin Config.gcCount) (v : Byte) : Instr :=
  (#v[Instr.writeGcSetReset, Instr.writeGcEnableSetReset, Instr.writeGcColorCompare, Instr.writeGcRotate,
      Instr.writeGcReadMap, Instr.writeGcMode, Instr.writeGcMisc, Instr.writeGcDontCare, Instr.writeGcBitMask] : Vector (Byte → Instr) Config.gcCount)[i] v

/-- The read rows of the GC registers in index order (R133). -/
def gcReadRow (i : Fin Config.gcCount) : Instr :=
  (#v[Instr.readGcSetReset, Instr.readGcEnableSetReset, Instr.readGcColorCompare, Instr.readGcRotate,
      Instr.readGcReadMap, Instr.readGcMode, Instr.readGcMisc, Instr.readGcDontCare, Instr.readGcBitMask] : Vector Instr Config.gcCount)[i]

/-- The write rows of the CRTC registers in index order (R133). -/
def crtcWriteRow (i : Fin Config.crtcCount) (v : Byte) : Instr :=
  (#v[Instr.writeCrtcHorzTotal, Instr.writeCrtcEndHorzDisp, Instr.writeCrtcStartHorzBlank,
      Instr.writeCrtcEndHorzBlank, Instr.writeCrtcStartHorzRetrace, Instr.writeCrtcEndHorzRetrace,
      Instr.writeCrtcVertTotal, Instr.writeCrtcOverflow, Instr.writeCrtcPresetRowScan, Instr.writeCrtcMaxScan,
      Instr.writeCrtcCursorStart, Instr.writeCrtcCursorEnd, Instr.writeCrtcStartHigh, Instr.writeCrtcStartLow,
      Instr.writeCrtcCursorLocHigh, Instr.writeCrtcCursorLocLow, Instr.writeCrtcVertRetraceStart,
      Instr.writeCrtcVertRetraceEnd, Instr.writeCrtcVertDispEnd, Instr.writeCrtcOffset, Instr.writeCrtcUnderline,
      Instr.writeCrtcStartVertBlank, Instr.writeCrtcEndVertBlank, Instr.writeCrtcMode, Instr.writeCrtcLineCompare] : Vector (Byte → Instr) Config.crtcCount)[i] v

/-- The read rows of the CRTC registers in index order (R133). -/
def crtcReadRow (i : Fin Config.crtcCount) : Instr :=
  (#v[Instr.readCrtcHorzTotal, Instr.readCrtcEndHorzDisp, Instr.readCrtcStartHorzBlank, Instr.readCrtcEndHorzBlank,
      Instr.readCrtcStartHorzRetrace, Instr.readCrtcEndHorzRetrace, Instr.readCrtcVertTotal,
      Instr.readCrtcOverflow, Instr.readCrtcPresetRowScan, Instr.readCrtcMaxScan, Instr.readCrtcCursorStart,
      Instr.readCrtcCursorEnd, Instr.readCrtcStartHigh, Instr.readCrtcStartLow, Instr.readCrtcCursorLocHigh,
      Instr.readCrtcCursorLocLow, Instr.readCrtcVertRetraceStart, Instr.readCrtcVertRetraceEnd,
      Instr.readCrtcVertDispEnd, Instr.readCrtcOffset, Instr.readCrtcUnderline, Instr.readCrtcStartVertBlank,
      Instr.readCrtcEndVertBlank, Instr.readCrtcMode, Instr.readCrtcLineCompare] : Vector Instr Config.crtcCount)[i]

/-- The write rows of the AC registers in index order (R133). -/
def acWriteRow (i : Fin Config.acCount) (v : Byte) : Instr :=
  (#v[Instr.writeAcPal0, Instr.writeAcPal1, Instr.writeAcPal2, Instr.writeAcPal3, Instr.writeAcPal4,
      Instr.writeAcPal5, Instr.writeAcPal6, Instr.writeAcPal7, Instr.writeAcPal8, Instr.writeAcPal9,
      Instr.writeAcPal10, Instr.writeAcPal11, Instr.writeAcPal12, Instr.writeAcPal13, Instr.writeAcPal14,
      Instr.writeAcPal15, Instr.writeAcMode, Instr.writeAcOverscan, Instr.writeAcPlaneEnable, Instr.writeAcPanning,
      Instr.writeAcColorSelect] : Vector (Byte → Instr) Config.acCount)[i] v

/-- The read rows of the AC registers in index order (R133). -/
def acReadRow (i : Fin Config.acCount) : Instr :=
  (#v[Instr.readAcPal0, Instr.readAcPal1, Instr.readAcPal2, Instr.readAcPal3, Instr.readAcPal4, Instr.readAcPal5,
      Instr.readAcPal6, Instr.readAcPal7, Instr.readAcPal8, Instr.readAcPal9, Instr.readAcPal10, Instr.readAcPal11,
      Instr.readAcPal12, Instr.readAcPal13, Instr.readAcPal14, Instr.readAcPal15, Instr.readAcMode,
      Instr.readAcOverscan, Instr.readAcPlaneEnable, Instr.readAcPanning, Instr.readAcColorSelect] : Vector Instr Config.acCount)[i]

/-- Second-level decode of a register's write row (R133): the port that carries the group's data writes and the register number. -/
def rowWrite (n : PortName) (i : Nat) (v : Byte) : Option Instr :=
  match n with
  | .seqData => if h : i < Config.seqCount then some (seqWriteRow ⟨i, h⟩ v) else none
  | .gcData => if h : i < Config.gcCount then some (gcWriteRow ⟨i, h⟩ v) else none
  | .crtcData => if h : i < Config.crtcCount then some (crtcWriteRow ⟨i, h⟩ v) else none
  | .acIndexData => if h : i < Config.acCount then some (acWriteRow ⟨i, h⟩ v) else none
  | .acRead | .miscWrite | .seqIndex | .dacReadIndex | .dacWriteIndex | .dacData | .miscRead | .gcIndex | .crtcIndex | .status => none

/-- Second-level decode of a register's read row (R133). -/
def rowRead (n : PortName) (i : Nat) : Option Instr :=
  match n with
  | .seqData => if h : i < Config.seqCount then some (seqReadRow ⟨i, h⟩) else none
  | .gcData => if h : i < Config.gcCount then some (gcReadRow ⟨i, h⟩) else none
  | .crtcData => if h : i < Config.crtcCount then some (crtcReadRow ⟨i, h⟩) else none
  | .acRead => if h : i < Config.acCount then some (acReadRow ⟨i, h⟩) else none
  | .acIndexData | .miscWrite | .seqIndex | .dacReadIndex | .dacWriteIndex | .dacData | .miscRead | .gcIndex | .crtcIndex | .status => none

/-- A byte list of any length: each byte behind a 1, the end marked by a 0 (log entry 1). -/
def encodeBytes : List Byte → List Byte
  | [] => [0]
  | b :: bs => 1 :: b :: encodeBytes bs

/-- Reads one byte list and gives what follows it. -/
def decodeBytes : List Byte → Except DecodeError (List Byte × List Byte)
  | [] => .error .truncated
  | m :: rest =>
    if m = 0 then .ok ([], rest)
    else if m = 1 then
      match rest with
      | [] => .error .truncated
      | b :: rest =>
        match decodeBytes rest with
        | .ok (bs, r) => .ok (b :: bs, r)
        | .error e => .error e
    else .error .malformed

/-- The base-256 digits of a natural number, least significant first, at most `fuel` of them. -/
def natDigits : (fuel : Nat) → Nat → List Byte
  | 0, _ => []
  | fuel + 1, n => if n = 0 then [] else BitVec.ofNat 8 n :: natDigits fuel (n / 256)

/-- The number that base-256 digits stand for. -/
def natOfDigits : List Byte → Nat
  | [] => 0
  | b :: bs => b.toNat + 256 * natOfDigits bs

/-- A natural number of any size, as its digits. -/
def encodeNat (n : Nat) : List Byte := encodeBytes (natDigits n n)

/-- A 32-bit address, least significant byte first (log entry 1). -/
def encodeAddr (a : Addr) : List Byte :=
  [a.extractLsb' 0 8, a.extractLsb' 8 8, a.extractLsb' 16 8, a.extractLsb' 24 8]

/-- The address that four bytes stand for. -/
def addrOfBytes (b0 b1 b2 b3 : Byte) : Addr := b3 ++ b2 ++ b1 ++ b0

/-- Takes exactly `n` bytes. -/
def takeBytes : (n : Nat) → List Byte → Except DecodeError (Vector Byte n × List Byte)
  | 0, bs => .ok (#v[], bs)
  | _ + 1, [] => .error .truncated
  | n + 1, b :: bs =>
    match takeBytes n bs with
    | .ok (v, r) => .ok ((#v[b] ++ v).cast (Nat.add_comm 1 n), r)
    | .error e => .error e

/-- R396's tuple in its written order. -/
def encodeSeed (s : Seed) : List Byte :=
  s.misc :: (s.seq.toList ++ (s.gc.toList ++ (s.crtc.toList ++ s.ac.toList)))

/-- Reads one seed and gives what follows it. -/
def decodeSeed : List Byte → Except DecodeError (Seed × List Byte)
  | [] => .error .truncated
  | m :: bs =>
    match takeBytes Config.seqCount bs with
    | .error e => .error e
    | .ok (seq, bs) =>
      match takeBytes Config.gcCount bs with
      | .error e => .error e
      | .ok (gc, bs) =>
        match takeBytes Config.crtcCount bs with
        | .error e => .error e
        | .ok (crtc, bs) =>
          match takeBytes Config.acCount bs with
          | .error e => .error e
          | .ok (ac, bs) => .ok (⟨m, seq, gc, crtc, ac⟩, bs)

/-- The form bytes: one per format and direction of R120, one per call, and the port accesses wider than a byte that R84 refuses. -/
inductive Form where
  | pw | pr | rowPw | rowPr | mw | mr
  | refresh | hretrace | vretrace | res | istext | takedirty | surf | cursor | seed
  | wide
  deriving DecidableEq, Repr

/-- The form a form byte names. No form byte has exactly one bit set, so that the one-bit "index" field which the reader put
above the port in some rows of the table names no form (log entry 12). -/
def formOf (t : Byte) : Option Form :=
  match t.toNat with
  | 0x00 => some .pw
  | 0x03 => some .pr
  | 0x05 => some .rowPw
  | 0x06 => some .rowPr
  | 0x07 => some .mw
  | 0x09 => some .mr
  | 0x11 => some .refresh
  | 0x12 => some .hretrace
  | 0x13 => some .vretrace
  | 0x14 => some .res
  | 0x15 => some .istext
  | 0x16 => some .takedirty
  | 0x17 => some .surf
  | 0x18 => some .cursor
  | 0x19 => some .seed
  | 0x21 => some .wide
  | 0x22 => some .wide
  | 0x23 => some .wide
  | 0x24 => some .wide
  | _ => none

/-- An operation that is not a port access carries a port field of 0. -/
def noPort (p : Port) (r : Except DecodeError (Instr × List Byte)) : Except DecodeError (Instr × List Byte) :=
  if p = 0 then r else .error .malformed

/-- A port access to one of the 14 ports, or the refusal of R128. -/
def onPort (p : Port) (k : PortName → Except DecodeError (Instr × List Byte)) : Except DecodeError (Instr × List Byte) :=
  match portNamed p with
  | some n => k n
  | none => .error (.unclaimedPort p)

/-- `row`, `col` of `surf`: a 0 for the whole surface, or a 1 and the two numbers. -/
def decodeElement : List Byte → Except DecodeError (Option (Nat × Nat) × List Byte)
  | [] => .error .truncated
  | m :: rest =>
    if m = 0 then .ok (none, rest)
    else if m = 1 then
      match decodeBytes rest with
      | .error e => .error e
      | .ok (row, rest) =>
        match decodeBytes rest with
        | .error e => .error e
        | .ok (col, rest) => .ok (some (natOfDigits row, natOfDigits col), rest)
    else .error .malformed

/-- The operands behind the port and the form byte. -/
def decodeOperands (p : Port) (rest : List Byte) : Form → Except DecodeError (Instr × List Byte)
  | .pw => onPort p fun n =>
      match rest with
      | v :: r => .ok (portWrite n v, r)
      | [] => .error .truncated
  | .pr => onPort p fun n => .ok (portRead n, rest)
  | .rowPw => onPort p fun n =>
      match rest with
      | i :: v :: r => match rowWrite n i.toNat v with
        | some x => .ok (x, r)
        | none => .error .malformed
      | _ => .error .truncated
  | .rowPr => onPort p fun n =>
      match rest with
      | i :: r => match rowRead n i.toNat with
        | some x => .ok (x, r)
        | none => .error .malformed
      | [] => .error .truncated
  | .mw => noPort p <|
      match rest with
      | b0 :: b1 :: b2 :: b3 :: r => match decodeBytes r with
        | .ok (bs, r) => .ok (.memw (addrOfBytes b0 b1 b2 b3) bs, r)
        | .error e => .error e
      | _ => .error .truncated
  | .mr => noPort p <|
      match rest with
      | b0 :: b1 :: b2 :: b3 :: r => match decodeBytes r with
        | .ok (bs, r) => .ok (.memr (addrOfBytes b0 b1 b2 b3) bs.length bs, r)
        | .error e => .error e
      | _ => .error .truncated
  | .refresh => noPort p (.ok (.refresh, rest))
  | .hretrace => noPort p (.ok (.hretrace, rest))
  | .vretrace => noPort p (.ok (.vretrace, rest))
  | .res => noPort p (.ok (.res, rest))
  | .istext => noPort p (.ok (.istext, rest))
  | .takedirty => noPort p (.ok (.takedirty, rest))
  | .surf => noPort p <|
      match decodeElement rest with
      | .ok (e, r) => .ok (.surf e, r)
      | .error e => .error e
  | .cursor => noPort p (.ok (.cursor, rest))
  | .seed => noPort p <|
      match decodeSeed rest with
      | .ok (s, r) => .ok (.seed s, r)
      | .error e => .error e
  | .wide => .error (.widePortAccess p)

/-- Decodes the first operation of a byte sequence and gives what follows it: total, refusing by name. -/
def decode : List Byte → Except DecodeError (Instr × List Byte)
  | lo :: hi :: t :: rest =>
    match formOf t with
    | some f => decodeOperands (hi ++ lo) rest f
    | none => .error .malformed
  | _ => .error .truncated

/-- The two bytes of a port number, low byte first. -/
def portBytes (n : PortName) : List Byte :=
  [(Config.portNumber n).extractLsb' 0 8, (Config.portNumber n).extractLsb' 8 8]

/-- The bytes of `WritePort`. -/
def encodePw (n : PortName) (v : Byte) : List Byte := portBytes n ++ [0x00, v]
/-- The bytes of `ReadPort`. -/
def encodePr (n : PortName) : List Byte := portBytes n ++ [0x03]
/-- The bytes of a register's write row. -/
def encodeRowPw (n : PortName) (i v : Byte) : List Byte := portBytes n ++ [0x05, i, v]
/-- The bytes of a register's read row. -/
def encodeRowPr (n : PortName) (i : Byte) : List Byte := portBytes n ++ [0x06, i]
/-- The bytes of an operation without a port. -/
def encodeCall (t : Byte) (operands : List Byte) : List Byte := 0 :: 0 :: t :: operands

/-- The bytes of an operation. -/
def encode : Instr → List Byte
  | .outPortAcIndexData v => encodePw .acIndexData v
  | .inPortAcIndexData => encodePr .acIndexData
  | .outPortAcRead v => encodePw .acRead v
  | .inPortAcRead => encodePr .acRead
  | .outPortMiscWrite v => encodePw .miscWrite v
  | .inPortMiscWrite => encodePr .miscWrite
  | .outPortSeqIndex v => encodePw .seqIndex v
  | .inPortSeqIndex => encodePr .seqIndex
  | .outPortSeqData v => encodePw .seqData v
  | .inPortSeqData => encodePr .seqData
  | .outPortDacReadIndex v => encodePw .dacReadIndex v
  | .inPortDacReadIndex => encodePr .dacReadIndex
  | .outPortDacWriteIndex v => encodePw .dacWriteIndex v
  | .inPortDacWriteIndex => encodePr .dacWriteIndex
  | .outPortDacData v => encodePw .dacData v
  | .inPortDacData => encodePr .dacData
  | .outPortMiscRead v => encodePw .miscRead v
  | .inPortMiscRead => encodePr .miscRead
  | .outPortGcIndex v => encodePw .gcIndex v
  | .inPortGcIndex => encodePr .gcIndex
  | .outPortGcData v => encodePw .gcData v
  | .inPortGcData => encodePr .gcData
  | .outPortCrtcIndex v => encodePw .crtcIndex v
  | .inPortCrtcIndex => encodePr .crtcIndex
  | .outPortCrtcData v => encodePw .crtcData v
  | .inPortCrtcData => encodePr .crtcData
  | .outPortStatus v => encodePw .status v
  | .inPortStatus => encodePr .status
  | .writeSeqReset v => encodeRowPw .seqData 0 v
  | .readSeqReset => encodeRowPr .seqData 0
  | .writeSeqClock v => encodeRowPw .seqData 1 v
  | .readSeqClock => encodeRowPr .seqData 1
  | .writeSeqMapMask v => encodeRowPw .seqData 2 v
  | .readSeqMapMask => encodeRowPr .seqData 2
  | .writeSeqCharMap v => encodeRowPw .seqData 3 v
  | .readSeqCharMap => encodeRowPr .seqData 3
  | .writeSeqMem v => encodeRowPw .seqData 4 v
  | .readSeqMem => encodeRowPr .seqData 4
  | .writeGcSetReset v => encodeRowPw .gcData 0 v
  | .readGcSetReset => encodeRowPr .gcData 0
  | .writeGcEnableSetReset v => encodeRowPw .gcData 1 v
  | .readGcEnableSetReset => encodeRowPr .gcData 1
  | .writeGcColorCompare v => encodeRowPw .gcData 2 v
  | .readGcColorCompare => encodeRowPr .gcData 2
  | .writeGcRotate v => encodeRowPw .gcData 3 v
  | .readGcRotate => encodeRowPr .gcData 3
  | .writeGcReadMap v => encodeRowPw .gcData 4 v
  | .readGcReadMap => encodeRowPr .gcData 4
  | .writeGcMode v => encodeRowPw .gcData 5 v
  | .readGcMode => encodeRowPr .gcData 5
  | .writeGcMisc v => encodeRowPw .gcData 6 v
  | .readGcMisc => encodeRowPr .gcData 6
  | .writeGcDontCare v => encodeRowPw .gcData 7 v
  | .readGcDontCare => encodeRowPr .gcData 7
  | .writeGcBitMask v => encodeRowPw .gcData 8 v
  | .readGcBitMask => encodeRowPr .gcData 8
  | .writeCrtcHorzTotal v => encodeRowPw .crtcData 0 v
  | .readCrtcHorzTotal => encodeRowPr .crtcData 0
  | .writeCrtcEndHorzDisp v => encodeRowPw .crtcData 1 v
  | .readCrtcEndHorzDisp => encodeRowPr .crtcData 1
  | .writeCrtcStartHorzBlank v => encodeRowPw .crtcData 2 v
  | .readCrtcStartHorzBlank => encodeRowPr .crtcData 2
  | .writeCrtcEndHorzBlank v => encodeRowPw .crtcData 3 v
  | .readCrtcEndHorzBlank => encodeRowPr .crtcData 3
  | .writeCrtcStartHorzRetrace v => encodeRowPw .crtcData 4 v
  | .readCrtcStartHorzRetrace => encodeRowPr .crtcData 4
  | .writeCrtcEndHorzRetrace v => encodeRowPw .crtcData 5 v
  | .readCrtcEndHorzRetrace => encodeRowPr .crtcData 5
  | .writeCrtcVertTotal v => encodeRowPw .crtcData 6 v
  | .readCrtcVertTotal => encodeRowPr .crtcData 6
  | .writeCrtcOverflow v => encodeRowPw .crtcData 7 v
  | .readCrtcOverflow => encodeRowPr .crtcData 7
  | .writeCrtcPresetRowScan v => encodeRowPw .crtcData 8 v
  | .readCrtcPresetRowScan => encodeRowPr .crtcData 8
  | .writeCrtcMaxScan v => encodeRowPw .crtcData 9 v
  | .readCrtcMaxScan => encodeRowPr .crtcData 9
  | .writeCrtcCursorStart v => encodeRowPw .crtcData 10 v
  | .readCrtcCursorStart => encodeRowPr .crtcData 10
  | .writeCrtcCursorEnd v => encodeRowPw .crtcData 11 v
  | .readCrtcCursorEnd => encodeRowPr .crtcData 11
  | .writeCrtcStartHigh v => encodeRowPw .crtcData 12 v
  | .readCrtcStartHigh => encodeRowPr .crtcData 12
  | .writeCrtcStartLow v => encodeRowPw .crtcData 13 v
  | .readCrtcStartLow => encodeRowPr .crtcData 13
  | .writeCrtcCursorLocHigh v => encodeRowPw .crtcData 14 v
  | .readCrtcCursorLocHigh => encodeRowPr .crtcData 14
  | .writeCrtcCursorLocLow v => encodeRowPw .crtcData 15 v
  | .readCrtcCursorLocLow => encodeRowPr .crtcData 15
  | .writeCrtcVertRetraceStart v => encodeRowPw .crtcData 16 v
  | .readCrtcVertRetraceStart => encodeRowPr .crtcData 16
  | .writeCrtcVertRetraceEnd v => encodeRowPw .crtcData 17 v
  | .readCrtcVertRetraceEnd => encodeRowPr .crtcData 17
  | .writeCrtcVertDispEnd v => encodeRowPw .crtcData 18 v
  | .readCrtcVertDispEnd => encodeRowPr .crtcData 18
  | .writeCrtcOffset v => encodeRowPw .crtcData 19 v
  | .readCrtcOffset => encodeRowPr .crtcData 19
  | .writeCrtcUnderline v => encodeRowPw .crtcData 20 v
  | .readCrtcUnderline => encodeRowPr .crtcData 20
  | .writeCrtcStartVertBlank v => encodeRowPw .crtcData 21 v
  | .readCrtcStartVertBlank => encodeRowPr .crtcData 21
  | .writeCrtcEndVertBlank v => encodeRowPw .crtcData 22 v
  | .readCrtcEndVertBlank => encodeRowPr .crtcData 22
  | .writeCrtcMode v => encodeRowPw .crtcData 23 v
  | .readCrtcMode => encodeRowPr .crtcData 23
  | .writeCrtcLineCompare v => encodeRowPw .crtcData 24 v
  | .readCrtcLineCompare => encodeRowPr .crtcData 24
  | .writeAcPal0 v => encodeRowPw .acIndexData 0 v
  | .readAcPal0 => encodeRowPr .acRead 0
  | .writeAcPal1 v => encodeRowPw .acIndexData 1 v
  | .readAcPal1 => encodeRowPr .acRead 1
  | .writeAcPal2 v => encodeRowPw .acIndexData 2 v
  | .readAcPal2 => encodeRowPr .acRead 2
  | .writeAcPal3 v => encodeRowPw .acIndexData 3 v
  | .readAcPal3 => encodeRowPr .acRead 3
  | .writeAcPal4 v => encodeRowPw .acIndexData 4 v
  | .readAcPal4 => encodeRowPr .acRead 4
  | .writeAcPal5 v => encodeRowPw .acIndexData 5 v
  | .readAcPal5 => encodeRowPr .acRead 5
  | .writeAcPal6 v => encodeRowPw .acIndexData 6 v
  | .readAcPal6 => encodeRowPr .acRead 6
  | .writeAcPal7 v => encodeRowPw .acIndexData 7 v
  | .readAcPal7 => encodeRowPr .acRead 7
  | .writeAcPal8 v => encodeRowPw .acIndexData 8 v
  | .readAcPal8 => encodeRowPr .acRead 8
  | .writeAcPal9 v => encodeRowPw .acIndexData 9 v
  | .readAcPal9 => encodeRowPr .acRead 9
  | .writeAcPal10 v => encodeRowPw .acIndexData 10 v
  | .readAcPal10 => encodeRowPr .acRead 10
  | .writeAcPal11 v => encodeRowPw .acIndexData 11 v
  | .readAcPal11 => encodeRowPr .acRead 11
  | .writeAcPal12 v => encodeRowPw .acIndexData 12 v
  | .readAcPal12 => encodeRowPr .acRead 12
  | .writeAcPal13 v => encodeRowPw .acIndexData 13 v
  | .readAcPal13 => encodeRowPr .acRead 13
  | .writeAcPal14 v => encodeRowPw .acIndexData 14 v
  | .readAcPal14 => encodeRowPr .acRead 14
  | .writeAcPal15 v => encodeRowPw .acIndexData 15 v
  | .readAcPal15 => encodeRowPr .acRead 15
  | .writeAcMode v => encodeRowPw .acIndexData 16 v
  | .readAcMode => encodeRowPr .acRead 16
  | .writeAcOverscan v => encodeRowPw .acIndexData 17 v
  | .readAcOverscan => encodeRowPr .acRead 17
  | .writeAcPlaneEnable v => encodeRowPw .acIndexData 18 v
  | .readAcPlaneEnable => encodeRowPr .acRead 18
  | .writeAcPanning v => encodeRowPw .acIndexData 19 v
  | .readAcPanning => encodeRowPr .acRead 19
  | .writeAcColorSelect v => encodeRowPw .acIndexData 20 v
  | .readAcColorSelect => encodeRowPr .acRead 20
  | .memw a bs => encodeCall 0x07 (encodeAddr a ++ encodeBytes bs)
  | .memr a _ buf => encodeCall 0x09 (encodeAddr a ++ encodeBytes buf)
  | .refresh => encodeCall 0x11 []
  | .hretrace => encodeCall 0x12 []
  | .vretrace => encodeCall 0x13 []
  | .res => encodeCall 0x14 []
  | .istext => encodeCall 0x15 []
  | .takedirty => encodeCall 0x16 []
  | .surf none => encodeCall 0x17 [0]
  | .surf (some (row, col)) => encodeCall 0x17 (1 :: (encodeNat row ++ encodeNat col))
  | .cursor => encodeCall 0x18 []
  | .seed s => encodeCall 0x19 (encodeSeed s)

/-- The number of bytes laid out for a table word: the longest operation with operands of zeros (a seed behind port and form byte). -/
def tableWordBytes : Nat := 64

/-- The `n` low bytes of a number, least significant first. -/
def lowBytes : (n : Nat) → Nat → List Byte
  | 0, _ => []
  | n + 1, w => BitVec.ofNat 8 w :: lowBytes n (w / 256)

/-- The bytes of a table word: bit 0 is the least significant bit of the first byte; bits from `nbits` on are 0. -/
def tableBytes (nbits w : Nat) : List Byte := lowBytes tableWordBytes (w % 2 ^ nbits)

/-- The instruction the decoder reads from a word of spec/opcode_table.json (log entry 12: the table's word is the port number
alone, without direction or register). -/
def decodeTableWord (nbits w : Nat) : Option Instr :=
  match decode (tableBytes nbits w) with
  | .ok (i, _) => some i
  | .error _ => none

/-- The bytes of the one operation a table word stands for, without the zeros behind it; a word that is no operation stays as it
is, for the fetch to refuse. -/
def tableOperation (nbits w : Nat) : List Byte :=
  match decode (tableBytes nbits w) with
  | .ok (i, _) => encode i
  | .error _ => tableBytes nbits w

end Sys2Proof
end

