-- ==== Sys2Proof/Machine/State.lean ====
section
/-! DEFINITION. The state: R20's aggregate `VgaDevice` as plain data, and beside it the model's own fields (the operations issued
and not yet taken, the result of the last operation, the count of open values drawn). -/

namespace Sys2Proof.Machine

open Sys2Proof

/-- `dac_dir` (R37). -/
inductive DacDir where
  | read | write
  deriving DecidableEq, Repr

/-- One cell of a text surface (R44). -/
structure TextCell where
  ch   : Byte
  attr : Byte
  deriving DecidableEq, Repr

/-- `surface` (R44): absent, or a text or graphics grid of `h` rows of `w` elements with the geometry of the last allocation. -/
inductive Surface where
  | none
  | text (w h : Nat) (cells : List (List TextCell))
  | gfx (w h : Nat) (pixels : List (List Byte))
  deriving DecidableEq, Repr

/-- `dirty` (R45): four inclusive cell coordinates, columns `left`, `right`, rows `top`, `bottom`. -/
inductive DirtyRegion where
  | empty
  | rect (left top right bottom : Nat)
  deriving DecidableEq, Repr

/-- Video memory (R38) as (flat position, byte) pairs; the flat position of byte `o` of plane `k` is `o + k * BANK_SIZE` (R94).
Canonical form: positions strictly rising, no entry that holds what an unlisted position reads as. -/
abbrev Memory := List Host.Cell

/-- `size` of the cursor, a ratio in the rationals (R338 (b)), as numerator and denominator. -/
structure Ratio where
  num : Nat
  den : Nat
  deriving DecidableEq, Repr

/-- The result an operation returns to its caller (R7, R13); the fatal condition is the one outcome distinct from normal
completion (R360). -/
inductive Answer where
  /-- no result -/
  | none
  /-- `ReadPort` -/
  | byte (b : Byte)
  /-- `ReadMemory` -/
  | bytes (bs : List Byte)
  /-- `CurrentResolution` -/
  | resolution (width height : Nat)
  /-- `IsTextMode` -/
  | bool (b : Bool)
  /-- `TakeDirtyRegion` -/
  | region (d : DirtyRegion)
  /-- the whole surface -/
  | surface (s : Surface)
  /-- one element of a surface that does not exist -/
  | noSurface
  /-- one cell of a text surface -/
  | cell (c : TextCell)
  /-- one pixel of a graphics surface -/
  | pixel (p : Byte)
  /-- the cursor: visible, its size (only when visible), row, column -/
  | cursor (visible : Bool) (size : Option Ratio) (row col : Nat)
  /-- `Fatal(SurfaceAlloc)` (R364) -/
  | fatalSurfaceAlloc
  deriving DecidableEq, Repr

/-- `VgaDevice` (R20): everything the spec gives the block. -/
structure Device where
  /-- R21 -/
  seqIndex : Fin Config.seqCount
  /-- R21, R22 -/
  seq : Vector Byte Config.seqCount
  /-- R24 -/
  gcIndex : Fin Config.gcCount
  /-- R24, R25 -/
  gc : Vector Byte Config.gcCount
  /-- R27 -/
  crtcIndex : Fin Config.crtcCount
  /-- R27, R28 -/
  crtc : Vector Byte Config.crtcCount
  /-- R30 -/
  acIndex : Fin Config.acCount
  /-- R30, R31 -/
  ac : Vector Byte Config.acCount
  /-- R33: false selects the index, true writes data -/
  acLatch : Bool
  /-- R34 -/
  misc : Byte
  /-- R35 -/
  dac : Vector Byte Config.paletteSize
  /-- R36 -/
  dacIndex : Fin Config.paletteSize
  /-- R37 -/
  dacDir : DacDir
  /-- R38 -/
  planes : Memory
  /-- R39 -/
  hRetrace : Bool
  /-- R39 -/
  vRetrace : Bool
  /-- R40 -/
  modeChanged : Bool
  /-- R41 -/
  cursorMoved : Bool
  /-- R42 -/
  paletteChanged : Bool
  /-- R44 -/
  surface : Surface
  /-- R45 -/
  dirty : DirtyRegion
  /-- R45, R308 -/
  repaintPending : Bool
  /-- R49 -/
  unimplSeen : Bool
  /-- R50 -/
  fatal : Bool
  deriving DecidableEq, Repr

/-- The machine: the device and three fields of the model's own. -/
structure State where
  /-- R13, R20 -/
  dev : Device
  /-- the model's own (log entry 1): the operations the outside agents have issued and the block has not yet taken, oldest first,
  in the byte form of Decode.lean -/
  pending : List Byte
  /-- the model's own (log entry 14): the result of the last operation -/
  answer : Answer
  /-- the model's own (log entries 5 and 6): how many open values have been drawn -/
  draws : Nat
  deriving DecidableEq, Repr

/-- No step of this machine ends in a fault, so there is no constructor: the spec's one error outcome, `Fatal(SurfaceAlloc)`, has
a state after it (R364) and is a next state with `fatal` set, `surface` none and the answer `fatalSurfaceAlloc` (log entry 13). -/
inductive Fault where
  deriving DecidableEq, Repr

/-- Why an operation is refused. All are safe: the machine stops where the spec says the block does not accept the operation. -/
inductive Refusal where
  /-- an arm of `exec` without a meaning (none is left) -/
  | notModelled (mnemonic : String)
  /-- every operation once `fatal` is set (R365), raised by every meaning -/
  | sessionEnded
  /-- raised by the fetch: a port that is none of the 14 (R128) -/
  | unclaimedPort (p : Port)
  /-- raised by the fetch: a port access wider than 8 bits (R84) -/
  | widePortAccess (p : Port)
  /-- raised by the fetch: bytes that are no operation of R120, which no agent of the block issues (log entry 1) -/
  | notAnOperation
  /-- raised by SURF with a row or a column outside the grid (R336) -/
  | outsideGrid
  /-- raised by MEMW, MEMR and REFRESH under the parameter value `premise` of U6 only (R93; log entry 8) -/
  | offsetBeyondBank
  deriving DecidableEq, Repr

/-- The device at creation (R60 to R66, R390). -/
def Device.reset : Device where
  seqIndex := 0
  seq := Vector.replicate _ 0
  gcIndex := 0
  gc := Vector.replicate _ 0
  crtcIndex := 0
  crtc := Vector.replicate _ 0
  acIndex := 0
  ac := Vector.replicate _ 0
  acLatch := false
  misc := 0
  dac := Vector.replicate _ 0
  dacIndex := 0
  dacDir := .read
  planes := []
  hRetrace := false
  vRetrace := false
  modeChanged := true
  cursorMoved := false
  paletteChanged := false
  surface := .none
  dirty := .empty
  repaintPending := false
  unimplSeen := false
  fatal := false

/-- The machine right after reset: the device at creation and nothing issued yet. -/
def State.reset : State where
  dev := Device.reset
  pending := []
  answer := .none
  draws := 0

end Sys2Proof.Machine
end

