-- ==== Sys2Proof/Machine/Flags.lean ====
section
/-! DEFINITION. The flags an operation computes: which register writes mark an edge (R47, R163, R172, R173) and the status byte
(R220). -/

namespace Sys2Proof.Machine

open Sys2Proof

/-- A GC data write marks `mode_changed` for `GC_MISC` (6) only (R162, R163). -/
def gcMarksMode (i : Fin Config.gcCount) : Bool := i.val == 6

/-- A CRTC data write marks `mode_changed` for END_HORZ_DISP, OVERFLOW and VERT_DISP_END (R172). -/
def crtcMarksMode (i : Fin Config.crtcCount) : Bool := i.val == 0x01 || i.val == 0x07 || i.val == 0x12

/-- A CRTC data write marks `cursor_moved` for CURSOR_START, CURSOR_END and the two location registers (R173). -/
def crtcMarksCursor (i : Fin Config.crtcCount) : Bool :=
  i.val == 0x0A || i.val == 0x0B || i.val == 0x0E || i.val == 0x0F

/-- The status byte: "display disabled" if either flag is set, "vertical retrace" if that flag is set (R220). -/
def statusByte (h v : Bool) : Byte :=
  (if h || v then Config.statusDD else 0) ||| (if v then Config.statusVR else 0)

end Sys2Proof.Machine
end

