-- ==== Sys2Proof/Machine/Operands.lean ====
section
/-! DEFINITION. The register numbers (R22, R25, R28, R31) and the fields the block interprets (R23, R26, R29, R32, R34): every
other bit of every register is storage (R47). The numbers and positions are the spec's layout (decisions D3, D4, D5; log entry 3). -/

namespace Sys2Proof.Machine

open Sys2Proof

/-- `SEQ_CLOCK.DOT8` = `seq[1][0]` (R23). -/
def Device.dot8 (d : Device) : Bool := d.seq[1].getLsbD 0
/-- `SEQ_MAP_MASK.MASK` = `seq[2][3:0]` (R23). -/
def Device.mapMask (d : Device) : BitVec 4 := d.seq[2].extractLsb' 0 4
/-- `SEQ_MEM.C4` = `seq[4][3]` (R23). -/
def Device.chain4 (d : Device) : Bool := d.seq[4].getLsbD 3

/-- `GC_READ_MAP.SEL` = `gc[4][1:0]` (R26). -/
def Device.readMapSel (d : Device) : Nat := (d.gc[4].extractLsb' 0 2).toNat
/-- `GC_MODE.OE` = `gc[5][4]` (R26). -/
def Device.oddEven (d : Device) : Bool := d.gc[5].getLsbD 4
/-- `GC_MODE.SHIFTREG` = `gc[5][5]` (R26). -/
def Device.shiftReg (d : Device) : Bool := d.gc[5].getLsbD 5
/-- `GC_MODE.SHIFT256` = `gc[5][6]` (R26). -/
def Device.shift256 (d : Device) : Bool := d.gc[5].getLsbD 6
/-- `GC_MISC.NOALPHA` = `gc[6][0]` (R26). -/
def Device.noAlpha (d : Device) : Bool := d.gc[6].getLsbD 0
/-- `GC_MISC.MAP` = `gc[6][3:2]` (R26, `90_conflicts.md` C2). -/
def Device.windowSel (d : Device) : Fin Config.numWindows := (d.gc[6].extractLsb' 2 2).toFin

/-- Horizontal count minus one, `crtc[0x01]` (R29). -/
def Device.endHorzDisp (d : Device) : Nat := d.crtc[0x01].toNat
/-- Bits 7:0 of the vertical count minus one, `crtc[0x12]` (R29). -/
def Device.vertDispEnd (d : Device) : Nat := d.crtc[0x12].toNat
/-- `CRTC_OVERFLOW.VDE8` = `crtc[0x07][1]` (R29). -/
def Device.vde8 (d : Device) : Bool := d.crtc[0x07].getLsbD 1
/-- `CRTC_OVERFLOW.VDE9` = `crtc[0x07][6]` (R29). -/
def Device.vde9 (d : Device) : Bool := d.crtc[0x07].getLsbD 6
/-- `CRTC_MAX_SCAN.MSL` = `crtc[0x09][4:0]` (R29). -/
def Device.maxScan (d : Device) : Nat := (d.crtc[0x09].extractLsb' 0 5).toNat
/-- `CRTC_CURSOR_START.CSTART` = `crtc[0x0A][5:0]` (R29). -/
def Device.cursorStart (d : Device) : Nat := (d.crtc[0x0A].extractLsb' 0 6).toNat
/-- `CRTC_CURSOR_END.CEND` = `crtc[0x0B][4:0]` (R29). -/
def Device.cursorEnd (d : Device) : Nat := (d.crtc[0x0B].extractLsb' 0 5).toNat
/-- `CRTC_CURSOR_END.SKEW` = `crtc[0x0B][6:5]` (R29, `90_conflicts.md` C14). -/
def Device.cursorSkew (d : Device) : Nat := (d.crtc[0x0B].extractLsb' 5 2).toNat
/-- The start address `{crtc[0x0C], crtc[0x0D]}`, high register first (R29, R82). -/
def Device.startAddr (d : Device) : Nat := (d.crtc[0x0C] ++ d.crtc[0x0D]).toNat
/-- The cursor location `{crtc[0x0E], crtc[0x0F]}`, high register first (R29, R82). -/
def Device.cursorLoc (d : Device) : Nat := (d.crtc[0x0E] ++ d.crtc[0x0F]).toNat
/-- The scanline stride `crtc[0x13] * 2` in addressing units (R29, R265). -/
def Device.stride (d : Device) : Nat := d.crtc[0x13].toNat * Config.strideMul
/-- `CRTC_UNDERLINE.DW` = `crtc[0x14][6]` (R29). -/
def Device.dword (d : Device) : Bool := d.crtc[0x14].getLsbD 6
/-- `CRTC_MODE.BYTE` = `crtc[0x17][6]` (R29). -/
def Device.byteMode (d : Device) : Bool := d.crtc[0x17].getLsbD 6

/-- `AC_MODE.COLOR8` = `ac[0x10][6]` (R32). -/
def Device.color8 (d : Device) : Bool := d.ac[0x10].getLsbD 6

/-- `MISC.RAM_EN` = `misc[1]` (R34, `90_conflicts.md` C2). -/
def Device.ramEnabled (d : Device) : Bool := d.misc.getLsbD 1

end Sys2Proof.Machine
end

