-- ==== Sys2Proof/Machine/Ops.lean ====
section
/-! DEFINITION. The named operations the meanings are built from: one setter per field of the device, the planes' bytes, the
accesses to the indexed groups and the DAC, the one exception of the block (R364), the frame every meaning runs in (R365), and
the fetch of the next operation. -/

namespace Sys2Proof.Machine

open Sys2Proof

/-! ### One setter per field -/

@[simps] def Device.setSeqIndex (d : Device) (i : Fin Config.seqCount) : Device := { d with seqIndex := i }
@[simps] def Device.setSeq (d : Device) (r : Vector Byte Config.seqCount) : Device := { d with seq := r }
@[simps] def Device.setGcIndex (d : Device) (i : Fin Config.gcCount) : Device := { d with gcIndex := i }
@[simps] def Device.setGc (d : Device) (r : Vector Byte Config.gcCount) : Device := { d with gc := r }
@[simps] def Device.setCrtcIndex (d : Device) (i : Fin Config.crtcCount) : Device := { d with crtcIndex := i }
@[simps] def Device.setCrtc (d : Device) (r : Vector Byte Config.crtcCount) : Device := { d with crtc := r }
@[simps] def Device.setAcIndex (d : Device) (i : Fin Config.acCount) : Device := { d with acIndex := i }
@[simps] def Device.setAc (d : Device) (r : Vector Byte Config.acCount) : Device := { d with ac := r }
@[simps] def Device.setAcLatch (d : Device) (b : Bool) : Device := { d with acLatch := b }
@[simps] def Device.setMisc (d : Device) (v : Byte) : Device := { d with misc := v }
@[simps] def Device.setDac (d : Device) (r : Vector Byte Config.paletteSize) : Device := { d with dac := r }
@[simps] def Device.setDacIndex (d : Device) (i : Fin Config.paletteSize) : Device := { d with dacIndex := i }
@[simps] def Device.setDacDir (d : Device) (x : DacDir) : Device := { d with dacDir := x }
@[simps] def Device.setPlanes (d : Device) (m : Memory) : Device := { d with planes := m }
@[simps] def Device.setHRetrace (d : Device) (b : Bool) : Device := { d with hRetrace := b }
@[simps] def Device.setVRetrace (d : Device) (b : Bool) : Device := { d with vRetrace := b }
@[simps] def Device.setModeChanged (d : Device) (b : Bool) : Device := { d with modeChanged := b }
@[simps] def Device.setCursorMoved (d : Device) (b : Bool) : Device := { d with cursorMoved := b }
@[simps] def Device.setPaletteChanged (d : Device) (b : Bool) : Device := { d with paletteChanged := b }
@[simps] def Device.setSurface (d : Device) (x : Surface) : Device := { d with surface := x }
@[simps] def Device.setDirty (d : Device) (x : DirtyRegion) : Device := { d with dirty := x }
@[simps] def Device.setRepaintPending (d : Device) (b : Bool) : Device := { d with repaintPending := b }
@[simps] def Device.setUnimplSeen (d : Device) (b : Bool) : Device := { d with unimplSeen := b }
@[simps] def Device.setFatal (d : Device) (b : Bool) : Device := { d with fatal := b }

/-- The register array with register `i` holding `v`: all 8 bits, no mask (R21, R24, R27, R30, decision D9). -/
def putReg {n : Nat} (r : Vector Byte n) (i : Fin n) (v : Byte) : Vector Byte n := r.set i.val v i.isLt

/-! ### Video memory -/

/-- What a byte nothing has written holds: every byte of every plane is 0 at reset (R63; log entry 10). -/
def unlistedByte : Byte := 0

/-- The byte at a flat position. -/
def Memory.read : Memory → Nat → Byte
  | [], _ => unlistedByte
  | (p, b) :: rest, q => if p = q then b else Memory.read rest q

/-- The memory with byte `v` at flat position `q`, in canonical form. -/
def Memory.write : Memory → Nat → Byte → Memory
  | [], q, v => if v = unlistedByte then [] else [(q, v)]
  | (p, b) :: rest, q, v =>
    if q < p then (if v = unlistedByte then (p, b) :: rest else (q, v) :: (p, b) :: rest)
    else if q = p then (if v = unlistedByte then rest else (q, v) :: rest)
    else (p, b) :: Memory.write rest q v

/-- Every entry is at `lo` or above and inside the four banks, the positions rise strictly, and no entry holds what an unlisted
position reads as. -/
def Memory.wfFrom : Nat → Memory → Bool
  | _, [] => true
  | lo, (p, b) :: rest =>
    decide (lo ≤ p) && decide (p < Config.numPlanes * Config.bankSize) && (b != unlistedByte) && Memory.wfFrom (p + 1) rest

/-- The canonical form of the planes. -/
def Memory.wf (m : Memory) : Bool := Memory.wfFrom 0 m

/-- The flat position of byte `o` of plane `k` (R94). -/
def flatPos (k o : Nat) : Nat := o + k * Config.bankSize

/-- `plane[k][o]` (R11). -/
def Device.planeByte (d : Device) (k o : Nat) : Byte := Memory.read d.planes (flatPos k o)

/-- `plane[k][o] <- v` (R11). -/
@[simps!] def Device.setPlaneByte (d : Device) (k o : Nat) (v : Byte) : Device := d.setPlanes (Memory.write d.planes (flatPos k o) v)

/-! ### The indexed groups -/

/-- `SelectIndex(v)`: the new index if `v < COUNT`, else the prior one (R48, R126, R361 `E_INDEX`). -/
def selectIndex {n : Nat} (prior : Fin n) (v : Byte) : Fin n := if h : v.toNat < n then ⟨v.toNat, h⟩ else prior

/-- SEQ WriteData (R152): no Sequencer register marks an edge. -/
def Device.seqDataWrite (d : Device) (v : Byte) : Device := d.setSeq (putReg d.seq d.seqIndex v)

/-- GC WriteData (R162): `GC_MISC` marks `mode_changed`. -/
def Device.gcDataWrite (d : Device) (v : Byte) : Device :=
  (d.setGc (putReg d.gc d.gcIndex v)).setModeChanged (d.modeChanged || gcMarksMode d.gcIndex)

/-- CRTC WriteData (R174): the display-end registers mark `mode_changed`, the cursor registers `cursor_moved`. -/
def Device.crtcDataWrite (d : Device) (v : Byte) : Device :=
  ((d.setCrtc (putReg d.crtc d.crtcIndex v)).setModeChanged (d.modeChanged || crtcMarksMode d.crtcIndex)).setCursorMoved
    (d.cursorMoved || crtcMarksCursor d.crtcIndex)

/-- AC index-or-data write (R180): the latch selects the meaning and toggles on every write, an ignored index included. -/
def Device.acWrite (d : Device) (v : Byte) : Device :=
  (if d.acLatch then d.setAc (putReg d.ac d.acIndex v) else d.setAcIndex (selectIndex d.acIndex v)).setAcLatch (!d.acLatch)

/-! ### A register's own rows of the table (R133)

A row is "selected when the port matches and the named index register holds" its number: then the access reaches that register.
The access is the port's access, so in a state whose index register holds another number it reaches the register the index
selects (R122, R405; log entry 11). -/

/-- The write row of SEQ register `n`. -/
def Device.seqRowWrite (n : Fin Config.seqCount) (v : Byte) (d : Device) : Device :=
  if d.seqIndex = n then d.setSeq (putReg d.seq n v) else d.seqDataWrite v

/-- The write row of GC register `n`. -/
def Device.gcRowWrite (n : Fin Config.gcCount) (v : Byte) (d : Device) : Device :=
  if d.gcIndex = n then (d.setGc (putReg d.gc n v)).setModeChanged (d.modeChanged || gcMarksMode n) else d.gcDataWrite v

/-- The write row of CRTC register `n`. -/
def Device.crtcRowWrite (n : Fin Config.crtcCount) (v : Byte) (d : Device) : Device :=
  if d.crtcIndex = n then
    ((d.setCrtc (putReg d.crtc n v)).setModeChanged (d.modeChanged || crtcMarksMode n)).setCursorMoved
      (d.cursorMoved || crtcMarksCursor n)
  else d.crtcDataWrite v

/-- The write row of AC register `n`, selected when the latch also says "write data". -/
def Device.acRowWrite (n : Fin Config.acCount) (v : Byte) (d : Device) : Device :=
  if d.acLatch = true ∧ d.acIndex = n then (d.setAc (putReg d.ac n v)).setAcLatch false else d.acWrite v

/-- The read row of register `n` of a group whose index register holds `index`. -/
def readRow {k : Nat} (r : Vector Byte k) (index n : Fin k) : Byte := if index = n then r[n] else r[index]

/-! ### The DAC -/

/-- The byte index three times a palette entry number (R203, R204). -/
def dacEntryStart (v : Byte) : Fin Config.paletteSize := ⟨3 * v.toNat, by have := v.isLt; simp only [Config.paletteSize]; omega⟩

/-- The rotating index after one accepted access (R208). -/
def dacNext (i : Fin Config.paletteSize) : Fin Config.paletteSize :=
  ⟨(i.val + 1) % Config.paletteSize, Nat.mod_lt _ (by decide)⟩

/-- DAC data write (R206): accepted in direction `Write`, dropped in direction `Read`. -/
def Device.dacDataWrite (d : Device) (v : Byte) : Device :=
  match d.dacDir with
  | .write => ((d.setDac (putReg d.dac d.dacIndex v)).setDacIndex (dacNext d.dacIndex)).setPaletteChanged true
  | .read => d

/-! ### The status port -/

/-- The clearing half of a status read: both retrace flags and the AC latch (R220). -/
@[simps!] def Device.clearStatus (d : Device) : Device := ((d.setAcLatch false).setHRetrace false).setVRetrace false

/-! ### The one exception of the block

R369: there is no trap entry, no saved state, no vector and no return; R364 gives the state after the condition. -/

/-- `raise Fatal(SurfaceAlloc)` (R364): no surface, `fatal` set, the edge consumed, nothing dirty, everything else as before. -/
@[simps!] def Device.raiseFatal (d : Device) : Device := (((d.setSurface .none).setFatal true).setModeChanged false).setDirty .empty

/-! ### The frame of every meaning -/

/-- Every operation is refused once the session has ended (R365); else it goes on as `k` says. -/
def ifAlive (s : State) (k : Host.Outcome State Fault Refusal) : Host.Outcome State Fault Refusal :=
  if s.dev.fatal then .refused .sessionEnded else k

/-- The operation that takes the device to `d` and returns `a` (R13). -/
def complete (s : State) (d : Device) (a : Answer) : Host.Outcome State Fault Refusal :=
  ifAlive s (.next { s with dev := d, answer := a })

/-- The operation that leaves the device as it is and returns a byte the rules do not determine (R11 `draw u8`). -/
def completeOpenByte (s : State) : Host.Outcome State Fault Refusal :=
  ifAlive s (.next { s with answer := .byte (Config.openByte s.draws), draws := s.draws + 1 })

/-! ### Fetching the next operation -/

/-- The refusal at the boundary for bytes that decode to no operation (R84, R128). -/
def refusalOf : DecodeError → Refusal
  | .truncated => .notAnOperation
  | .unclaimedPort p => .unclaimedPort p
  | .widePortAccess p => .widePortAccess p
  | .malformed => .notAnOperation

/-- What the next step takes: nothing when no agent has issued an operation (R6: the block has no autonomous step), else the
oldest operation issued, with the rest left in place (R104). -/
inductive Fetched where
  | idle
  | operation (i : Instr) (rest : List Byte)
  | stop (r : Refusal)
  deriving DecidableEq, Repr

/-- The fetch. -/
def fetch (pending : List Byte) : Fetched :=
  match pending with
  | [] => .idle
  | b :: bs =>
    match decode (b :: bs) with
    | .ok (i, rest) => .operation i rest
    | .error e => .stop (refusalOf e)

end Sys2Proof.Machine
end

