-- ==== Sys2Proof/Machine/AcRegisters.lean ====
section
/-! DEFINITION. The table's rows for the 21 AC registers, one write and one read each (R133): the data access that reaches the
register its name gives (R180, R184). -/

namespace Sys2Proof.Machine

open Sys2Proof

/-- AC[0x00] write (AC_PAL_0) (R180): storage only. -/
def execWriteAcPal0 (v : Byte) (s : State) : Host.Outcome State Fault Refusal :=
  complete s (s.dev.acRowWrite 0 v) .none

/-- AC[0x00] read (AC_PAL_0) (R184). -/
def execReadAcPal0 (s : State) : Host.Outcome State Fault Refusal :=
  complete s s.dev (.byte (readRow s.dev.ac s.dev.acIndex 0))

/-- AC[0x01] write (AC_PAL_1) (R180): storage only. -/
def execWriteAcPal1 (v : Byte) (s : State) : Host.Outcome State Fault Refusal :=
  complete s (s.dev.acRowWrite 1 v) .none

/-- AC[0x01] read (AC_PAL_1) (R184). -/
def execReadAcPal1 (s : State) : Host.Outcome State Fault Refusal :=
  complete s s.dev (.byte (readRow s.dev.ac s.dev.acIndex 1))

/-- AC[0x02] write (AC_PAL_2) (R180): storage only. -/
def execWriteAcPal2 (v : Byte) (s : State) : Host.Outcome State Fault Refusal :=
  complete s (s.dev.acRowWrite 2 v) .none

/-- AC[0x02] read (AC_PAL_2) (R184). -/
def execReadAcPal2 (s : State) : Host.Outcome State Fault Refusal :=
  complete s s.dev (.byte (readRow s.dev.ac s.dev.acIndex 2))

/-- AC[0x03] write (AC_PAL_3) (R180): storage only. -/
def execWriteAcPal3 (v : Byte) (s : State) : Host.Outcome State Fault Refusal :=
  complete s (s.dev.acRowWrite 3 v) .none

/-- AC[0x03] read (AC_PAL_3) (R184). -/
def execReadAcPal3 (s : State) : Host.Outcome State Fault Refusal :=
  complete s s.dev (.byte (readRow s.dev.ac s.dev.acIndex 3))

/-- AC[0x04] write (AC_PAL_4) (R180): storage only. -/
def execWriteAcPal4 (v : Byte) (s : State) : Host.Outcome State Fault Refusal :=
  complete s (s.dev.acRowWrite 4 v) .none

/-- AC[0x04] read (AC_PAL_4) (R184). -/
def execReadAcPal4 (s : State) : Host.Outcome State Fault Refusal :=
  complete s s.dev (.byte (readRow s.dev.ac s.dev.acIndex 4))

/-- AC[0x05] write (AC_PAL_5) (R180): storage only. -/
def execWriteAcPal5 (v : Byte) (s : State) : Host.Outcome State Fault Refusal :=
  complete s (s.dev.acRowWrite 5 v) .none

/-- AC[0x05] read (AC_PAL_5) (R184). -/
def execReadAcPal5 (s : State) : Host.Outcome State Fault Refusal :=
  complete s s.dev (.byte (readRow s.dev.ac s.dev.acIndex 5))

/-- AC[0x06] write (AC_PAL_6) (R180): storage only. -/
def execWriteAcPal6 (v : Byte) (s : State) : Host.Outcome State Fault Refusal :=
  complete s (s.dev.acRowWrite 6 v) .none

/-- AC[0x06] read (AC_PAL_6) (R184). -/
def execReadAcPal6 (s : State) : Host.Outcome State Fault Refusal :=
  complete s s.dev (.byte (readRow s.dev.ac s.dev.acIndex 6))

/-- AC[0x07] write (AC_PAL_7) (R180): storage only. -/
def execWriteAcPal7 (v : Byte) (s : State) : Host.Outcome State Fault Refusal :=
  complete s (s.dev.acRowWrite 7 v) .none

/-- AC[0x07] read (AC_PAL_7) (R184). -/
def execReadAcPal7 (s : State) : Host.Outcome State Fault Refusal :=
  complete s s.dev (.byte (readRow s.dev.ac s.dev.acIndex 7))

/-- AC[0x08] write (AC_PAL_8) (R180): storage only. -/
def execWriteAcPal8 (v : Byte) (s : State) : Host.Outcome State Fault Refusal :=
  complete s (s.dev.acRowWrite 8 v) .none

/-- AC[0x08] read (AC_PAL_8) (R184). -/
def execReadAcPal8 (s : State) : Host.Outcome State Fault Refusal :=
  complete s s.dev (.byte (readRow s.dev.ac s.dev.acIndex 8))

/-- AC[0x09] write (AC_PAL_9) (R180): storage only. -/
def execWriteAcPal9 (v : Byte) (s : State) : Host.Outcome State Fault Refusal :=
  complete s (s.dev.acRowWrite 9 v) .none

/-- AC[0x09] read (AC_PAL_9) (R184). -/
def execReadAcPal9 (s : State) : Host.Outcome State Fault Refusal :=
  complete s s.dev (.byte (readRow s.dev.ac s.dev.acIndex 9))

/-- AC[0x0A] write (AC_PAL_10) (R180): storage only. -/
def execWriteAcPal10 (v : Byte) (s : State) : Host.Outcome State Fault Refusal :=
  complete s (s.dev.acRowWrite 10 v) .none

/-- AC[0x0A] read (AC_PAL_10) (R184). -/
def execReadAcPal10 (s : State) : Host.Outcome State Fault Refusal :=
  complete s s.dev (.byte (readRow s.dev.ac s.dev.acIndex 10))

/-- AC[0x0B] write (AC_PAL_11) (R180): storage only. -/
def execWriteAcPal11 (v : Byte) (s : State) : Host.Outcome State Fault Refusal :=
  complete s (s.dev.acRowWrite 11 v) .none

/-- AC[0x0B] read (AC_PAL_11) (R184). -/
def execReadAcPal11 (s : State) : Host.Outcome State Fault Refusal :=
  complete s s.dev (.byte (readRow s.dev.ac s.dev.acIndex 11))

/-- AC[0x0C] write (AC_PAL_12) (R180): storage only. -/
def execWriteAcPal12 (v : Byte) (s : State) : Host.Outcome State Fault Refusal :=
  complete s (s.dev.acRowWrite 12 v) .none

/-- AC[0x0C] read (AC_PAL_12) (R184). -/
def execReadAcPal12 (s : State) : Host.Outcome State Fault Refusal :=
  complete s s.dev (.byte (readRow s.dev.ac s.dev.acIndex 12))

/-- AC[0x0D] write (AC_PAL_13) (R180): storage only. -/
def execWriteAcPal13 (v : Byte) (s : State) : Host.Outcome State Fault Refusal :=
  complete s (s.dev.acRowWrite 13 v) .none

/-- AC[0x0D] read (AC_PAL_13) (R184). -/
def execReadAcPal13 (s : State) : Host.Outcome State Fault Refusal :=
  complete s s.dev (.byte (readRow s.dev.ac s.dev.acIndex 13))

/-- AC[0x0E] write (AC_PAL_14) (R180): storage only. -/
def execWriteAcPal14 (v : Byte) (s : State) : Host.Outcome State Fault Refusal :=
  complete s (s.dev.acRowWrite 14 v) .none

/-- AC[0x0E] read (AC_PAL_14) (R184). -/
def execReadAcPal14 (s : State) : Host.Outcome State Fault Refusal :=
  complete s s.dev (.byte (readRow s.dev.ac s.dev.acIndex 14))

/-- AC[0x0F] write (AC_PAL_15) (R180): storage only. -/
def execWriteAcPal15 (v : Byte) (s : State) : Host.Outcome State Fault Refusal :=
  complete s (s.dev.acRowWrite 15 v) .none

/-- AC[0x0F] read (AC_PAL_15) (R184). -/
def execReadAcPal15 (s : State) : Host.Outcome State Fault Refusal :=
  complete s s.dev (.byte (readRow s.dev.ac s.dev.acIndex 15))

/-- AC[0x10] write (AC_MODE) (R180): field COLOR8 = bit 6. -/
def execWriteAcMode (v : Byte) (s : State) : Host.Outcome State Fault Refusal :=
  complete s (s.dev.acRowWrite 16 v) .none

/-- AC[0x10] read (AC_MODE) (R184). -/
def execReadAcMode (s : State) : Host.Outcome State Fault Refusal :=
  complete s s.dev (.byte (readRow s.dev.ac s.dev.acIndex 16))

/-- AC[0x11] write (AC_OVERSCAN) (R180): storage only. -/
def execWriteAcOverscan (v : Byte) (s : State) : Host.Outcome State Fault Refusal :=
  complete s (s.dev.acRowWrite 17 v) .none

/-- AC[0x11] read (AC_OVERSCAN) (R184). -/
def execReadAcOverscan (s : State) : Host.Outcome State Fault Refusal :=
  complete s s.dev (.byte (readRow s.dev.ac s.dev.acIndex 17))

/-- AC[0x12] write (AC_PLANE_ENABLE) (R180): storage only. -/
def execWriteAcPlaneEnable (v : Byte) (s : State) : Host.Outcome State Fault Refusal :=
  complete s (s.dev.acRowWrite 18 v) .none

/-- AC[0x12] read (AC_PLANE_ENABLE) (R184). -/
def execReadAcPlaneEnable (s : State) : Host.Outcome State Fault Refusal :=
  complete s s.dev (.byte (readRow s.dev.ac s.dev.acIndex 18))

/-- AC[0x13] write (AC_PANNING) (R180): storage only. -/
def execWriteAcPanning (v : Byte) (s : State) : Host.Outcome State Fault Refusal :=
  complete s (s.dev.acRowWrite 19 v) .none

/-- AC[0x13] read (AC_PANNING) (R184). -/
def execReadAcPanning (s : State) : Host.Outcome State Fault Refusal :=
  complete s s.dev (.byte (readRow s.dev.ac s.dev.acIndex 19))

/-- AC[0x14] write (AC_COLOR_SELECT) (R180): storage only. -/
def execWriteAcColorSelect (v : Byte) (s : State) : Host.Outcome State Fault Refusal :=
  complete s (s.dev.acRowWrite 20 v) .none

/-- AC[0x14] read (AC_COLOR_SELECT) (R184). -/
def execReadAcColorSelect (s : State) : Host.Outcome State Fault Refusal :=
  complete s s.dev (.byte (readRow s.dev.ac s.dev.acIndex 20))

end Sys2Proof.Machine
end

