-- ==== Sys2Proof/Machine/CrtcRegisters.lean ====
section
/-! DEFINITION. The table's rows for the 25 CRTC registers, one write and one read each (R133): the data access that reaches the
register its name gives (R172 to R175). -/

namespace Sys2Proof.Machine

open Sys2Proof

/-- CRTC[0x00] write (CRTC_HORZ_TOTAL) (R174): storage only. -/
def execWriteCrtcHorzTotal (v : Byte) (s : State) : Host.Outcome State Fault Refusal :=
  complete s (s.dev.crtcRowWrite 0 v) .none

/-- CRTC[0x00] read (CRTC_HORZ_TOTAL) (R175). -/
def execReadCrtcHorzTotal (s : State) : Host.Outcome State Fault Refusal :=
  complete s s.dev (.byte (readRow s.dev.crtc s.dev.crtcIndex 0))

/-- CRTC[0x01] write (CRTC_END_HORZ_DISP) (R174): horizontal count; write marks mode_changed. -/
def execWriteCrtcEndHorzDisp (v : Byte) (s : State) : Host.Outcome State Fault Refusal :=
  complete s (s.dev.crtcRowWrite 1 v) .none

/-- CRTC[0x01] read (CRTC_END_HORZ_DISP) (R175). -/
def execReadCrtcEndHorzDisp (s : State) : Host.Outcome State Fault Refusal :=
  complete s s.dev (.byte (readRow s.dev.crtc s.dev.crtcIndex 1))

/-- CRTC[0x02] write (CRTC_START_HORZ_BLANK) (R174): storage only. -/
def execWriteCrtcStartHorzBlank (v : Byte) (s : State) : Host.Outcome State Fault Refusal :=
  complete s (s.dev.crtcRowWrite 2 v) .none

/-- CRTC[0x02] read (CRTC_START_HORZ_BLANK) (R175). -/
def execReadCrtcStartHorzBlank (s : State) : Host.Outcome State Fault Refusal :=
  complete s s.dev (.byte (readRow s.dev.crtc s.dev.crtcIndex 2))

/-- CRTC[0x03] write (CRTC_END_HORZ_BLANK) (R174): storage only. -/
def execWriteCrtcEndHorzBlank (v : Byte) (s : State) : Host.Outcome State Fault Refusal :=
  complete s (s.dev.crtcRowWrite 3 v) .none

/-- CRTC[0x03] read (CRTC_END_HORZ_BLANK) (R175). -/
def execReadCrtcEndHorzBlank (s : State) : Host.Outcome State Fault Refusal :=
  complete s s.dev (.byte (readRow s.dev.crtc s.dev.crtcIndex 3))

/-- CRTC[0x04] write (CRTC_START_HORZ_RETRACE) (R174): storage only. -/
def execWriteCrtcStartHorzRetrace (v : Byte) (s : State) : Host.Outcome State Fault Refusal :=
  complete s (s.dev.crtcRowWrite 4 v) .none

/-- CRTC[0x04] read (CRTC_START_HORZ_RETRACE) (R175). -/
def execReadCrtcStartHorzRetrace (s : State) : Host.Outcome State Fault Refusal :=
  complete s s.dev (.byte (readRow s.dev.crtc s.dev.crtcIndex 4))

/-- CRTC[0x05] write (CRTC_END_HORZ_RETRACE) (R174): storage only. -/
def execWriteCrtcEndHorzRetrace (v : Byte) (s : State) : Host.Outcome State Fault Refusal :=
  complete s (s.dev.crtcRowWrite 5 v) .none

/-- CRTC[0x05] read (CRTC_END_HORZ_RETRACE) (R175). -/
def execReadCrtcEndHorzRetrace (s : State) : Host.Outcome State Fault Refusal :=
  complete s s.dev (.byte (readRow s.dev.crtc s.dev.crtcIndex 5))

/-- CRTC[0x06] write (CRTC_VERT_TOTAL) (R174): storage only. -/
def execWriteCrtcVertTotal (v : Byte) (s : State) : Host.Outcome State Fault Refusal :=
  complete s (s.dev.crtcRowWrite 6 v) .none

/-- CRTC[0x06] read (CRTC_VERT_TOTAL) (R175). -/
def execReadCrtcVertTotal (s : State) : Host.Outcome State Fault Refusal :=
  complete s s.dev (.byte (readRow s.dev.crtc s.dev.crtcIndex 6))

/-- CRTC[0x07] write (CRTC_OVERFLOW) (R174): fields VDE8 = bit 1, VDE9 = bit 6; write marks mode_changed. -/
def execWriteCrtcOverflow (v : Byte) (s : State) : Host.Outcome State Fault Refusal :=
  complete s (s.dev.crtcRowWrite 7 v) .none

/-- CRTC[0x07] read (CRTC_OVERFLOW) (R175). -/
def execReadCrtcOverflow (s : State) : Host.Outcome State Fault Refusal :=
  complete s s.dev (.byte (readRow s.dev.crtc s.dev.crtcIndex 7))

/-- CRTC[0x08] write (CRTC_PRESET_ROW_SCAN) (R174): storage only. -/
def execWriteCrtcPresetRowScan (v : Byte) (s : State) : Host.Outcome State Fault Refusal :=
  complete s (s.dev.crtcRowWrite 8 v) .none

/-- CRTC[0x08] read (CRTC_PRESET_ROW_SCAN) (R175). -/
def execReadCrtcPresetRowScan (s : State) : Host.Outcome State Fault Refusal :=
  complete s s.dev (.byte (readRow s.dev.crtc s.dev.crtcIndex 8))

/-- CRTC[0x09] write (CRTC_MAX_SCAN) (R174): field MSL = bits 4:0. -/
def execWriteCrtcMaxScan (v : Byte) (s : State) : Host.Outcome State Fault Refusal :=
  complete s (s.dev.crtcRowWrite 9 v) .none

/-- CRTC[0x09] read (CRTC_MAX_SCAN) (R175). -/
def execReadCrtcMaxScan (s : State) : Host.Outcome State Fault Refusal :=
  complete s s.dev (.byte (readRow s.dev.crtc s.dev.crtcIndex 9))

/-- CRTC[0x0A] write (CRTC_CURSOR_START) (R174): field CSTART = bits 5:0; write marks cursor_moved. -/
def execWriteCrtcCursorStart (v : Byte) (s : State) : Host.Outcome State Fault Refusal :=
  complete s (s.dev.crtcRowWrite 10 v) .none

/-- CRTC[0x0A] read (CRTC_CURSOR_START) (R175). -/
def execReadCrtcCursorStart (s : State) : Host.Outcome State Fault Refusal :=
  complete s s.dev (.byte (readRow s.dev.crtc s.dev.crtcIndex 10))

/-- CRTC[0x0B] write (CRTC_CURSOR_END) (R174): fields CEND = bits 4:0, SKEW = bits 6:5; write marks cursor_moved. -/
def execWriteCrtcCursorEnd (v : Byte) (s : State) : Host.Outcome State Fault Refusal :=
  complete s (s.dev.crtcRowWrite 11 v) .none

/-- CRTC[0x0B] read (CRTC_CURSOR_END) (R175). -/
def execReadCrtcCursorEnd (s : State) : Host.Outcome State Fault Refusal :=
  complete s s.dev (.byte (readRow s.dev.crtc s.dev.crtcIndex 11))

/-- CRTC[0x0C] write (CRTC_START_HIGH) (R174): start address high. -/
def execWriteCrtcStartHigh (v : Byte) (s : State) : Host.Outcome State Fault Refusal :=
  complete s (s.dev.crtcRowWrite 12 v) .none

/-- CRTC[0x0C] read (CRTC_START_HIGH) (R175). -/
def execReadCrtcStartHigh (s : State) : Host.Outcome State Fault Refusal :=
  complete s s.dev (.byte (readRow s.dev.crtc s.dev.crtcIndex 12))

/-- CRTC[0x0D] write (CRTC_START_LOW) (R174): start address low. -/
def execWriteCrtcStartLow (v : Byte) (s : State) : Host.Outcome State Fault Refusal :=
  complete s (s.dev.crtcRowWrite 13 v) .none

/-- CRTC[0x0D] read (CRTC_START_LOW) (R175). -/
def execReadCrtcStartLow (s : State) : Host.Outcome State Fault Refusal :=
  complete s s.dev (.byte (readRow s.dev.crtc s.dev.crtcIndex 13))

/-- CRTC[0x0E] write (CRTC_CURSOR_LOC_HIGH) (R174): cursor location high; write marks cursor_moved. -/
def execWriteCrtcCursorLocHigh (v : Byte) (s : State) : Host.Outcome State Fault Refusal :=
  complete s (s.dev.crtcRowWrite 14 v) .none

/-- CRTC[0x0E] read (CRTC_CURSOR_LOC_HIGH) (R175). -/
def execReadCrtcCursorLocHigh (s : State) : Host.Outcome State Fault Refusal :=
  complete s s.dev (.byte (readRow s.dev.crtc s.dev.crtcIndex 14))

/-- CRTC[0x0F] write (CRTC_CURSOR_LOC_LOW) (R174): cursor location low; write marks cursor_moved. -/
def execWriteCrtcCursorLocLow (v : Byte) (s : State) : Host.Outcome State Fault Refusal :=
  complete s (s.dev.crtcRowWrite 15 v) .none

/-- CRTC[0x0F] read (CRTC_CURSOR_LOC_LOW) (R175). -/
def execReadCrtcCursorLocLow (s : State) : Host.Outcome State Fault Refusal :=
  complete s s.dev (.byte (readRow s.dev.crtc s.dev.crtcIndex 15))

/-- CRTC[0x10] write (CRTC_VERT_RETRACE_START) (R174): storage only. -/
def execWriteCrtcVertRetraceStart (v : Byte) (s : State) : Host.Outcome State Fault Refusal :=
  complete s (s.dev.crtcRowWrite 16 v) .none

/-- CRTC[0x10] read (CRTC_VERT_RETRACE_START) (R175). -/
def execReadCrtcVertRetraceStart (s : State) : Host.Outcome State Fault Refusal :=
  complete s s.dev (.byte (readRow s.dev.crtc s.dev.crtcIndex 16))

/-- CRTC[0x11] write (CRTC_VERT_RETRACE_END) (R174): storage only. -/
def execWriteCrtcVertRetraceEnd (v : Byte) (s : State) : Host.Outcome State Fault Refusal :=
  complete s (s.dev.crtcRowWrite 17 v) .none

/-- CRTC[0x11] read (CRTC_VERT_RETRACE_END) (R175). -/
def execReadCrtcVertRetraceEnd (s : State) : Host.Outcome State Fault Refusal :=
  complete s s.dev (.byte (readRow s.dev.crtc s.dev.crtcIndex 17))

/-- CRTC[0x12] write (CRTC_VERT_DISP_END) (R174): vertical display end low 8 bits; write marks mode_changed. -/
def execWriteCrtcVertDispEnd (v : Byte) (s : State) : Host.Outcome State Fault Refusal :=
  complete s (s.dev.crtcRowWrite 18 v) .none

/-- CRTC[0x12] read (CRTC_VERT_DISP_END) (R175). -/
def execReadCrtcVertDispEnd (s : State) : Host.Outcome State Fault Refusal :=
  complete s s.dev (.byte (readRow s.dev.crtc s.dev.crtcIndex 18))

/-- CRTC[0x13] write (CRTC_OFFSET) (R174): stride = value*2. -/
def execWriteCrtcOffset (v : Byte) (s : State) : Host.Outcome State Fault Refusal :=
  complete s (s.dev.crtcRowWrite 19 v) .none

/-- CRTC[0x13] read (CRTC_OFFSET) (R175). -/
def execReadCrtcOffset (s : State) : Host.Outcome State Fault Refusal :=
  complete s s.dev (.byte (readRow s.dev.crtc s.dev.crtcIndex 19))

/-- CRTC[0x14] write (CRTC_UNDERLINE) (R174): field DW = bit 6. -/
def execWriteCrtcUnderline (v : Byte) (s : State) : Host.Outcome State Fault Refusal :=
  complete s (s.dev.crtcRowWrite 20 v) .none

/-- CRTC[0x14] read (CRTC_UNDERLINE) (R175). -/
def execReadCrtcUnderline (s : State) : Host.Outcome State Fault Refusal :=
  complete s s.dev (.byte (readRow s.dev.crtc s.dev.crtcIndex 20))

/-- CRTC[0x15] write (CRTC_START_VERT_BLANK) (R174): storage only. -/
def execWriteCrtcStartVertBlank (v : Byte) (s : State) : Host.Outcome State Fault Refusal :=
  complete s (s.dev.crtcRowWrite 21 v) .none

/-- CRTC[0x15] read (CRTC_START_VERT_BLANK) (R175). -/
def execReadCrtcStartVertBlank (s : State) : Host.Outcome State Fault Refusal :=
  complete s s.dev (.byte (readRow s.dev.crtc s.dev.crtcIndex 21))

/-- CRTC[0x16] write (CRTC_END_VERT_BLANK) (R174): storage only. -/
def execWriteCrtcEndVertBlank (v : Byte) (s : State) : Host.Outcome State Fault Refusal :=
  complete s (s.dev.crtcRowWrite 22 v) .none

/-- CRTC[0x16] read (CRTC_END_VERT_BLANK) (R175). -/
def execReadCrtcEndVertBlank (s : State) : Host.Outcome State Fault Refusal :=
  complete s s.dev (.byte (readRow s.dev.crtc s.dev.crtcIndex 22))

/-- CRTC[0x17] write (CRTC_MODE) (R174): field BYTE = bit 6. -/
def execWriteCrtcMode (v : Byte) (s : State) : Host.Outcome State Fault Refusal :=
  complete s (s.dev.crtcRowWrite 23 v) .none

/-- CRTC[0x17] read (CRTC_MODE) (R175). -/
def execReadCrtcMode (s : State) : Host.Outcome State Fault Refusal :=
  complete s s.dev (.byte (readRow s.dev.crtc s.dev.crtcIndex 23))

/-- CRTC[0x18] write (CRTC_LINE_COMPARE) (R174): storage only. -/
def execWriteCrtcLineCompare (v : Byte) (s : State) : Host.Outcome State Fault Refusal :=
  complete s (s.dev.crtcRowWrite 24 v) .none

/-- CRTC[0x18] read (CRTC_LINE_COMPARE) (R175). -/
def execReadCrtcLineCompare (s : State) : Host.Outcome State Fault Refusal :=
  complete s s.dev (.byte (readRow s.dev.crtc s.dev.crtcIndex 24))

end Sys2Proof.Machine
end

