-- ==== Sys2Proof/Machine/GcRegisters.lean ====
section
/-! DEFINITION. The table's rows for the 9 GC registers, one write and one read each (R133): the data access that reaches the
register its name gives (R162 to R164). -/

namespace Sys2Proof.Machine

open Sys2Proof

/-- GC[0] write (GC_SET_RESET) (R162): storage only. -/
def execWriteGcSetReset (v : Byte) (s : State) : Host.Outcome State Fault Refusal :=
  complete s (s.dev.gcRowWrite 0 v) .none

/-- GC[0] read (GC_SET_RESET) (R164). -/
def execReadGcSetReset (s : State) : Host.Outcome State Fault Refusal :=
  complete s s.dev (.byte (readRow s.dev.gc s.dev.gcIndex 0))

/-- GC[1] write (GC_ENABLE_SET_RESET) (R162): storage only. -/
def execWriteGcEnableSetReset (v : Byte) (s : State) : Host.Outcome State Fault Refusal :=
  complete s (s.dev.gcRowWrite 1 v) .none

/-- GC[1] read (GC_ENABLE_SET_RESET) (R164). -/
def execReadGcEnableSetReset (s : State) : Host.Outcome State Fault Refusal :=
  complete s s.dev (.byte (readRow s.dev.gc s.dev.gcIndex 1))

/-- GC[2] write (GC_COLOR_COMPARE) (R162): storage only. -/
def execWriteGcColorCompare (v : Byte) (s : State) : Host.Outcome State Fault Refusal :=
  complete s (s.dev.gcRowWrite 2 v) .none

/-- GC[2] read (GC_COLOR_COMPARE) (R164). -/
def execReadGcColorCompare (s : State) : Host.Outcome State Fault Refusal :=
  complete s s.dev (.byte (readRow s.dev.gc s.dev.gcIndex 2))

/-- GC[3] write (GC_ROTATE) (R162): storage only. -/
def execWriteGcRotate (v : Byte) (s : State) : Host.Outcome State Fault Refusal :=
  complete s (s.dev.gcRowWrite 3 v) .none

/-- GC[3] read (GC_ROTATE) (R164). -/
def execReadGcRotate (s : State) : Host.Outcome State Fault Refusal :=
  complete s s.dev (.byte (readRow s.dev.gc s.dev.gcIndex 3))

/-- GC[4] write (GC_READ_MAP) (R162): field SEL = bits 1:0. -/
def execWriteGcReadMap (v : Byte) (s : State) : Host.Outcome State Fault Refusal :=
  complete s (s.dev.gcRowWrite 4 v) .none

/-- GC[4] read (GC_READ_MAP) (R164). -/
def execReadGcReadMap (s : State) : Host.Outcome State Fault Refusal :=
  complete s s.dev (.byte (readRow s.dev.gc s.dev.gcIndex 4))

/-- GC[5] write (GC_MODE) (R162): fields OE = bit 4, SHIFTREG = bit 5, SHIFT256 = bit 6. -/
def execWriteGcMode (v : Byte) (s : State) : Host.Outcome State Fault Refusal :=
  complete s (s.dev.gcRowWrite 5 v) .none

/-- GC[5] read (GC_MODE) (R164). -/
def execReadGcMode (s : State) : Host.Outcome State Fault Refusal :=
  complete s s.dev (.byte (readRow s.dev.gc s.dev.gcIndex 5))

/-- GC[6] write (GC_MISC) (R163): fields NOALPHA = bit 0, MAP = bits 3:2; write marks mode_changed. -/
def execWriteGcMisc (v : Byte) (s : State) : Host.Outcome State Fault Refusal :=
  complete s (s.dev.gcRowWrite 6 v) .none

/-- GC[6] read (GC_MISC) (R164). -/
def execReadGcMisc (s : State) : Host.Outcome State Fault Refusal :=
  complete s s.dev (.byte (readRow s.dev.gc s.dev.gcIndex 6))

/-- GC[7] write (GC_DONT_CARE) (R162): storage only. -/
def execWriteGcDontCare (v : Byte) (s : State) : Host.Outcome State Fault Refusal :=
  complete s (s.dev.gcRowWrite 7 v) .none

/-- GC[7] read (GC_DONT_CARE) (R164). -/
def execReadGcDontCare (s : State) : Host.Outcome State Fault Refusal :=
  complete s s.dev (.byte (readRow s.dev.gc s.dev.gcIndex 7))

/-- GC[8] write (GC_BIT_MASK) (R162): storage only. -/
def execWriteGcBitMask (v : Byte) (s : State) : Host.Outcome State Fault Refusal :=
  complete s (s.dev.gcRowWrite 8 v) .none

/-- GC[8] read (GC_BIT_MASK) (R164). -/
def execReadGcBitMask (s : State) : Host.Outcome State Fault Refusal :=
  complete s s.dev (.byte (readRow s.dev.gc s.dev.gcIndex 8))

end Sys2Proof.Machine
end

