-- ==== Sys2Proof/Machine/Translate.lean ====
section
/-! DEFINITION. The Address Translator (R87 to R95): pure functions of a linear address and the registers current at the access
(R108). -/

namespace Sys2Proof.Machine

open Sys2Proof

/-- `UnitSize` (R90): dword first, then byte, else word. -/
def Device.unitSize (d : Device) : Nat := if d.dword then 4 else if d.byteMode then 1 else 2

/-- `WINDOW[F(GC_MISC.MAP)]` (R88). -/
def Device.window (d : Device) : Nat × Nat := Config.window d.windowSel

/-- `base <= a <= limit` (R89). -/
def Device.inWindow (d : Device) (a : Addr) : Bool := decide (d.window.1 ≤ a.toNat) && decide (a.toNat ≤ d.window.2)

/-- The relative offset `a - base` (R89). -/
def Device.relOffset (d : Device) (a : Addr) : Nat := a.toNat - d.window.1

/-- The offset before the reduction of R93, `o * UnitSize`, with `o` shifted by chain-4, else odd/even, else not at all: the same
shift for writes (R91) and reads (R92). -/
def Device.rawOffset (d : Device) (rel : Nat) : Nat :=
  (if d.chain4 then rel / 4 else if d.oddEven then rel / 2 else rel) * d.unitSize

/-- `WriteOffset(rel)` (R91, R93). -/
def Device.writeOffset (d : Device) (rel : Nat) : Nat := d.rawOffset rel % Config.bankSize

/-- `ReadPlane(rel)` (R92). -/
def Device.readPlane (d : Device) (rel : Nat) : Nat :=
  if d.chain4 then rel % 4 else if d.oddEven then rel % 2 else d.readMapSel

/-- `ReadOffset(rel)` (R92, R93). -/
def Device.readOffset (d : Device) (rel : Nat) : Nat := d.rawOffset rel % Config.bankSize

/-- Plane `k` receives the byte at linear address `a` (R95): three independent tests. -/
def Device.eligible (d : Device) (a : Addr) (k : Nat) : Bool :=
  d.mapMask.getLsbD k && (!d.chain4 || a.toNat % 4 == k) && (!d.oddEven || a.toNat % 2 == k % 2)

/-- The offset leaves its bank where the parameter of U6 makes that a premise (R93; log entry 8). -/
def breaksPremise (raw : Nat) : Bool := (Config.offsetOverflow == .premise) && decide (Config.bankSize ≤ raw)

end Sys2Proof.Machine
end

