-- ==== Sys2Proof/Machine/Resolver.lean ====
section
/-! DEFINITION. The Mode Resolver (R260 to R268): a pure function of the registers, recomputed at every use (R43, R108), on
natural numbers with floor division. -/

namespace Sys2Proof.Machine

open Sys2Proof

/-- `IsText` (R260). -/
def Device.isText (d : Device) : Bool := !d.noAlpha

/-- `HC` (R261). -/
def Device.horzCount (d : Device) : Nat := d.endHorzDisp + 1

/-- `VDE`, the 10-bit value of R262. -/
def Device.vertEnd (d : Device) : Nat := d.vertDispEnd + 256 * d.vde8.toNat + 512 * d.vde9.toNat

/-- `Height` (R262), in text and graphics mode alike (decision D36). -/
def Device.height (d : Device) : Nat := (d.vertEnd + 1) / (d.maxScan + 1)

/-- `Width` in graphics mode (R263). -/
def Device.gfxWidth (d : Device) : Nat :=
  if d.color8 then d.horzCount * (if d.dot8 then 8 else 9) / 2 else d.horzCount * (if d.dot8 then 8 else 9)

/-- `Width` (R263, R264). -/
def Device.width (d : Device) : Nat := if d.isText then d.horzCount else d.gfxWidth

/-- The geometry (R266). -/
def Device.geometry (d : Device) : Geometry := ⟨d.isText, d.width, d.height⟩

/-- `ResolveMode(regs)` (R266): text flag, width, height, unit, stride. -/
structure ModeState where
  isText : Bool
  width  : Nat
  height : Nat
  unit   : Nat
  stride : Nat
  deriving DecidableEq, Repr

/-- `ResolveMode` (R266). -/
def Device.resolveMode (d : Device) : ModeState := ⟨d.isText, d.width, d.height, d.unitSize, d.stride⟩

end Sys2Proof.Machine
end

