-- ==== Sys2Proof/Machine/Renderer.lean ====
section
/-! DEFINITION. The Framebuffer Renderer and RefreshDisplay (R280 to R309). -/

namespace Sys2Proof.Machine

open Sys2Proof

/-! ### Addresses -/

/-- `RowAddr(i)` in the naturals (R288). -/
def Device.rowAddr (d : Device) (i : Nat) : Nat := d.startAddr + i * d.resolveMode.stride

/-- `Pos(x)` (R290): the one place of the renderer's unit multiplication. -/
def Device.fetchPos (d : Device) (x : Nat) : Nat := x * d.resolveMode.unit % Config.bankSize

/-- A renderer fetch: no gate, window, mask or read map applies (R292). -/
def Device.fetchByte (d : Device) (k x : Nat) : Byte := d.planeByte k (d.fetchPos x)

/-! ### Text and graphics decode -/

/-- The cell at row `i`, column `j` (R296). -/
def Device.textCell (d : Device) (i j : Nat) : TextCell :=
  ⟨d.fetchByte 0 (d.rowAddr i + j), d.fetchByte 1 (d.rowAddr i + j)⟩

/-- The decode paths of R298. -/
inductive DecodePath where
  | shift256x8 | shift256x4 | interleaved | planar8 | planar4
  deriving DecidableEq, Repr

/-- Path selection (R298). -/
def Device.decodePath (d : Device) : DecodePath :=
  if d.shift256 then (if d.color8 then .shift256x8 else .shift256x4)
  else if d.shiftReg then .interleaved
  else (if d.color8 then .planar8 else .planar4)

/-- Path 1, Shift256_8 (R300). -/
def Device.shift256x8Pixel (d : Device) (i j : Nat) : Byte := d.fetchByte (j % 4) (d.rowAddr i + j / 4)

/-- Path 2, Shift256_4 (R301), under either value of `SHIFT256_4_MAP` (U4): the plane, the column and whether the pixel is the
high nibble. -/
def shift256x4Map (m : Shift256Map) (j : Nat) : Nat × Nat × Bool :=
  match m with
  | .byteIndex => (j / 2 % 4, j / 2 / 4, j % 2 == 0)
  | .planeIndex => (j % 4, j / 8, j / 4 % 2 == 0)

/-- The pixel of path 2 under the map `m`. -/
def Device.shift256x4PixelBy (m : Shift256Map) (d : Device) (i j : Nat) : Byte :=
  let p := shift256x4Map m j
  let byte := d.fetchByte p.1 (d.rowAddr i + p.2.1)
  if p.2.2 then byte >>> 4 else byte &&& 0x0F

/-- Path 2, Shift256_4 (R301). -/
def Device.shift256x4Pixel (d : Device) (i j : Nat) : Byte := d.shift256x4PixelBy Config.shift256Map i j

/-- Path 4a, Planar8 (R303): a bit pair of each plane, the upper bit to bit `k`, the lower to bit `k + 4`. -/
def Device.planar8Pixel (d : Device) (i j : Nat) : Byte :=
  [0, 1, 2, 3].foldl (fun new k =>
    let byte := d.fetchByte k (d.rowAddr i + j / 4)
    let s := (3 - j % 4) * 2
    let new := if byte.getLsbD (s + 1) then new ||| BitVec.twoPow 8 k else new
    if byte.getLsbD s then new ||| BitVec.twoPow 8 (k + 4) else new) 0

/-- Path 4b, Planar4 (R304): one bit of each plane. -/
def Device.planar4Pixel (d : Device) (i j : Nat) : Byte :=
  [0, 1, 2, 3].foldl (fun new k =>
    if (d.fetchByte k (d.rowAddr i + j / 8)).getLsbD (7 - j % 8) then new ||| BitVec.twoPow 8 k else new) 0

/-- The raw decoded index of a pixel (R305), or nothing on the unimplemented path (R302). -/
def Device.pixelBy (d : Device) : DecodePath → Option (Nat → Nat → Byte)
  | .shift256x8 => some d.shift256x8Pixel
  | .shift256x4 => some d.shift256x4Pixel
  | .interleaved => none
  | .planar8 => some d.planar8Pixel
  | .planar4 => some d.planar4Pixel

/-! ### Compare, store, dirty tracking -/

/-- `widen` (R307). -/
def DirtyRegion.widen : DirtyRegion → Nat → Nat → DirtyRegion
  | .empty, i, j => .rect j i j i
  | .rect l t r b, i, j => .rect (min l j) (min t i) (max r j) (max b i)

/-- Compare and store along one row from column `j` on (R306). -/
def renderRow {α : Type} [DecidableEq α] (new : Nat → α) (i : Nat) : Nat → List α → DirtyRegion → List α × DirtyRegion
  | _, [], dirty => ([], dirty)
  | j, old :: rest, dirty =>
    let r := renderRow new i (j + 1) rest (if old = new j then dirty else dirty.widen i j)
    (new j :: r.1, r.2)

/-- Compare and store over the rows from row `i` on (R306). -/
def renderRows {α : Type} [DecidableEq α] (new : Nat → Nat → α) : Nat → List (List α) → DirtyRegion → List (List α) × DirtyRegion
  | _, [], dirty => ([], dirty)
  | i, row :: rows, dirty =>
    let r := renderRow (new i) i 0 row dirty
    let rs := renderRows new (i + 1) rows r.2
    (r.1 :: rs.1, rs.2)

/-- The render pass over the whole surface (R280, R285): text by R296, graphics by the selected path; the unimplemented path leaves
every pixel and sets the marker (R302, R363). -/
def Device.renderPass (d : Device) : Device :=
  match d.surface with
  | .none => d
  | .text w h cells =>
    let r := renderRows d.textCell 0 cells d.dirty
    (d.setSurface (.text w h r.1)).setDirty r.2
  | .gfx w h pixels =>
    match d.pixelBy d.decodePath with
    | none => d.setUnimplSeen true
    | some f =>
      let r := renderRows f 0 pixels d.dirty
      (d.setSurface (.gfx w h r.1)).setDirty r.2

/-! ### Reallocation -/

/-- The geometry a surface was allocated with (R44). -/
def Surface.geometry : Surface → Option Geometry
  | .none => Option.none
  | .text w h _ => some ⟨true, w, h⟩
  | .gfx w h _ => some ⟨false, w, h⟩

/-- A new surface of geometry `g`: every cell (0, 0), every pixel 0 (R284). -/
def Surface.blank (g : Geometry) : Surface :=
  if g.isText then .text g.width g.height (List.replicate g.height (List.replicate g.width ⟨0, 0⟩))
  else .gfx g.width g.height (List.replicate g.height (List.replicate g.width 0))

/-- When the reallocation path is taken (R283): the edge, no surface, or another geometry. -/
def Device.reallocNeeded (d : Device) : Bool := d.modeChanged || decide (d.surface.geometry ≠ some d.geometry)

/-- Release and reallocate (R284). -/
@[simps!] def Device.reallocate (d : Device) : Device := ((d.setModeChanged false).setSurface (Surface.blank d.geometry)).setDirty .empty

/-- End of refresh (R308). -/
@[simps!] def Device.endRefresh (d : Device) : Device :=
  ((d.setCursorMoved false).setPaletteChanged false).setRepaintPending (d.repaintPending || decide (d.dirty ≠ .empty))

/-- `RefreshDisplay` (R280), with the environment's answer to an allocation (R364). -/
def Device.refresh (d : Device) (allocOk : Bool) : Device × Answer :=
  if d.reallocNeeded then
    if allocOk then (d.reallocate.renderPass.endRefresh, .none) else (d.raiseFatal, .fatalSurfaceAlloc)
  else (d.renderPass.endRefresh, .none)

/-- The columns a row of the pass fetches at, counted in bytes of the row (R296, R300 to R304). -/
def Device.fetchColumns (d : Device) : Nat :=
  if d.isText then d.width
  else match d.decodePath with
    | .shift256x8 | .planar8 => (d.width + 3) / 4
    | .shift256x4 | .planar4 => (d.width + 7) / 8
    | .interleaved => 0

/-- Some fetch of the pass leaves its bank, under the premise of U6 (R93): the furthest one does, if there is any. -/
def Device.passBreaksPremise (d : Device) : Bool :=
  decide (0 < d.height) && decide (0 < d.fetchColumns) &&
    breaksPremise ((d.rowAddr (d.height - 1) + (d.fetchColumns - 1)) * d.unitSize)

/-- REFRESH (R280). DESIGN CHOICE (log entry 26): the reallocation and the pass of one refresh are one step. The spec makes each of them
a unit for the host's reads (R86, R106, R107, R336) and does not say whether a read may fall between the two; here none does. -/
def execRefresh (s : State) : Host.Outcome State Fault Refusal :=
  ifAlive s <|
    if s.dev.passBreaksPremise then .refused .offsetBeyondBank
    else
      let r := s.dev.refresh (Config.allocOk s.draws s.dev.geometry)
      .next { s with dev := r.1, answer := r.2, draws := if s.dev.reallocNeeded then s.draws + 1 else s.draws }

end Sys2Proof.Machine
end

