-- ==== Sys2Proof/Machine/HostInterface.lean ====
section
/-! DEFINITION. What the block exposes to the host display backend (R330 to R341). -/

namespace Sys2Proof.Machine

open Sys2Proof

/-- RES (R330): from the registers as they are now, not from the surface. -/
def execRes (s : State) : Host.Outcome State Fault Refusal :=
  complete s s.dev (.resolution s.dev.resolveMode.width s.dev.resolveMode.height)

/-- ISTEXT (R331). -/
def execIstext (s : State) : Host.Outcome State Fault Refusal :=
  complete s s.dev (.bool (!s.dev.noAlpha))

/-- TAKEDIRTY (R334): the flush. -/
def execTakedirty (s : State) : Host.Outcome State Fault Refusal :=
  complete s ((s.dev.setDirty .empty).setRepaintPending false) (.region s.dev.dirty)

/-- `surface[row][col]` (R336), where `row` and `col` are in the grid. -/
def Surface.element : Surface → Nat → Nat → Option Answer
  | .none, _, _ => some Answer.noSurface
  | .text w h cells, row, col =>
    if row < h ∧ col < w then (cells[row]?.bind fun r => r[col]?).map Answer.cell else Option.none
  | .gfx w h pixels, row, col =>
    if row < h ∧ col < w then (pixels[row]?.bind fun r => r[col]?).map Answer.pixel else Option.none

/-- SURF (R336): the whole surface, or one element of it; outside the grid it is refused. -/
def execSurf (at? : Option (Nat × Nat)) (s : State) : Host.Outcome State Fault Refusal :=
  ifAlive s <|
    match at? with
    | none => complete s s.dev (.surface s.dev.surface)
    | some (row, col) =>
      match s.dev.surface.element row col with
      | some a => complete s s.dev a
      | none => .refused .outsideGrid

/-- `visible` (R338). -/
def Device.cursorVisible (d : Device) : Bool := decide (d.cursorStart < d.cursorEnd)

/-- `size` (R338 (b)): a ratio, meaningful only when visible. -/
def Device.cursorSize (d : Device) : Option Ratio :=
  if d.cursorVisible then some ⟨d.cursorEnd - d.cursorStart, d.maxScan + 1⟩ else none

/-- `loc` (R338). -/
def Device.cursorLocation (d : Device) : Nat := d.cursorLoc + d.cursorSkew

/-- CURSOR (R338): with a stride of 0 the position is any pair (U5). -/
def execCursor (s : State) : Host.Outcome State Fault Refusal :=
  if s.dev.stride = 0 then
    ifAlive s <|
      .next { s with
        answer := .cursor s.dev.cursorVisible s.dev.cursorSize (Config.openPosition s.draws).1 (Config.openPosition s.draws).2
        draws := s.draws + 1 }
  else
    complete s s.dev (.cursor s.dev.cursorVisible s.dev.cursorSize
      (s.dev.cursorLocation / s.dev.stride) (s.dev.cursorLocation % s.dev.stride))

end Sys2Proof.Machine
end

