-- ==== Sys2Proof/Machine/IndexedPorts.lean ====
section
/-! DEFINITION. Port operations of the indexed groups SEQ, GC, CRTC and AC (R150 to R184) and of the AC read port's write (R127). -/

namespace Sys2Proof.Machine

open Sys2Proof

/-- OUT PORT_SEQ_INDEX (R150). -/
def execOutPortSeqIndex (v : Byte) (s : State) : Host.Outcome State Fault Refusal :=
  complete s (s.dev.setSeqIndex (selectIndex s.dev.seqIndex v)) .none

/-- IN PORT_SEQ_INDEX (R151). -/
def execInPortSeqIndex (s : State) : Host.Outcome State Fault Refusal :=
  complete s s.dev (.byte (BitVec.ofNat 8 s.dev.seqIndex))

/-- OUT PORT_SEQ_DATA (R152). -/
def execOutPortSeqData (v : Byte) (s : State) : Host.Outcome State Fault Refusal :=
  complete s (s.dev.seqDataWrite v) .none

/-- IN PORT_SEQ_DATA (R153). -/
def execInPortSeqData (s : State) : Host.Outcome State Fault Refusal :=
  complete s s.dev (.byte s.dev.seq[s.dev.seqIndex])

/-- OUT PORT_GC_INDEX (R160). -/
def execOutPortGcIndex (v : Byte) (s : State) : Host.Outcome State Fault Refusal :=
  complete s (s.dev.setGcIndex (selectIndex s.dev.gcIndex v)) .none

/-- IN PORT_GC_INDEX (R161). -/
def execInPortGcIndex (s : State) : Host.Outcome State Fault Refusal :=
  complete s s.dev (.byte (BitVec.ofNat 8 s.dev.gcIndex))

/-- OUT PORT_GC_DATA (R162, R163). -/
def execOutPortGcData (v : Byte) (s : State) : Host.Outcome State Fault Refusal :=
  complete s (s.dev.gcDataWrite v) .none

/-- IN PORT_GC_DATA (R164). -/
def execInPortGcData (s : State) : Host.Outcome State Fault Refusal :=
  complete s s.dev (.byte s.dev.gc[s.dev.gcIndex])

/-- OUT PORT_CRTC_INDEX (R170). -/
def execOutPortCrtcIndex (v : Byte) (s : State) : Host.Outcome State Fault Refusal :=
  complete s (s.dev.setCrtcIndex (selectIndex s.dev.crtcIndex v)) .none

/-- IN PORT_CRTC_INDEX (R171). -/
def execInPortCrtcIndex (s : State) : Host.Outcome State Fault Refusal :=
  complete s s.dev (.byte (BitVec.ofNat 8 s.dev.crtcIndex))

/-- OUT PORT_CRTC_DATA (R172 to R174). -/
def execOutPortCrtcData (v : Byte) (s : State) : Host.Outcome State Fault Refusal :=
  complete s (s.dev.crtcDataWrite v) .none

/-- IN PORT_CRTC_DATA (R175). -/
def execInPortCrtcData (s : State) : Host.Outcome State Fault Refusal :=
  complete s s.dev (.byte s.dev.crtc[s.dev.crtcIndex])

/-- OUT PORT_AC_INDEX_DATA (R180). -/
def execOutPortAcIndexData (v : Byte) (s : State) : Host.Outcome State Fault Refusal :=
  complete s (s.dev.acWrite v) .none

/-- IN PORT_AC_INDEX_DATA (R183): the latch is not toggled. -/
def execInPortAcIndexData (s : State) : Host.Outcome State Fault Refusal :=
  complete s s.dev (.byte (BitVec.ofNat 8 s.dev.acIndex))

/-- IN PORT_AC_READ (R184): the latch is not toggled. -/
def execInPortAcRead (s : State) : Host.Outcome State Fault Refusal :=
  complete s s.dev (.byte s.dev.ac[s.dev.acIndex])

/-- OUT PORT_AC_READ: ignored (R127). -/
def execOutPortAcRead (_v : Byte) (s : State) : Host.Outcome State Fault Refusal :=
  complete s s.dev .none

end Sys2Proof.Machine
end

