-- ==== Sys2Proof/Machine/MemoryOps.lean ====
section
/-! DEFINITION. `WriteMemory` and `ReadMemory` (R240 to R251). The gates are tested once per call, the fields are constant during it
(decision D38), the bytes are processed in ascending order (R82). -/

namespace Sys2Proof.Machine

open Sys2Proof

/-- The inner loop of R243 over the four planes, for the byte at linear address `a`. -/
def Device.writeLanes (d : Device) (a : Addr) (b : Byte) : Device :=
  [0, 1, 2, 3].foldl (fun e k => if d.eligible a k then e.setPlaneByte k (d.writeOffset (d.relOffset a)) b else e) d

/-- One byte of R243: skipped outside the window (R245). -/
def Device.writeByte (d : Device) (a : Addr) (b : Byte) : Device := if d.inWindow a then d.writeLanes a b else d

/-- The outer loop of R243, from linear address `a` on; addresses wrap at 2^32 (R89). -/
def Device.writeBytes (d : Device) (a : Addr) : List Byte → Device
  | [] => d
  | b :: bs => (d.writeByte a b).writeBytes (a + 1) bs

/-- `WriteMemory` (R243) with the RAM gate (R241) and the zero-mask gate (R242). -/
def Device.writeMemory (d : Device) (a : Addr) (bytes : List Byte) : Device :=
  if d.ramEnabled = false then d else if d.mapMask = 0 then d else d.writeBytes a bytes

/-- The byte R247 leaves in a buffer position that held `old`. -/
def Device.readByte (d : Device) (a : Addr) (old : Byte) : Byte :=
  if d.inWindow a then d.planeByte (d.readPlane (d.relOffset a)) (d.readOffset (d.relOffset a)) else old

/-- The loop of R247 over `length` positions of the caller's buffer. -/
def Device.readBytes (d : Device) (a : Addr) : (length : Nat) → List Byte → List Byte
  | length + 1, old :: rest => d.readByte a old :: d.readBytes (a + 1) length rest
  | 0, buf => buf
  | _ + 1, [] => []

/-- `ReadMemory` (R247): the untouched buffer when RAM is disabled (R241). -/
def Device.readMemory (d : Device) (a : Addr) (length : Nat) (buf : List Byte) : List Byte :=
  if d.ramEnabled = false then buf else d.readBytes a length buf

/-- Some in-window byte of an access of `length` bytes leaves its bank, under the premise of U6 (R93). -/
def Device.accessBreaksPremise (d : Device) (a : Addr) : (length : Nat) → Bool
  | 0 => false
  | length + 1 => (d.inWindow a && breaksPremise (d.rawOffset (d.relOffset a))) || d.accessBreaksPremise (a + 1) length

/-- MEMW (R243). -/
def execMemw (address : Addr) (bytes : List Byte) (s : State) : Host.Outcome State Fault Refusal :=
  ifAlive s <|
    if s.dev.ramEnabled && (s.dev.mapMask != 0) && s.dev.accessBreaksPremise address bytes.length then .refused .offsetBeyondBank
    else complete s (s.dev.writeMemory address bytes) .none

/-- MEMR (R247). -/
def execMemr (address : Addr) (length : Nat) (buf : List Byte) (s : State) : Host.Outcome State Fault Refusal :=
  ifAlive s <|
    if s.dev.ramEnabled && s.dev.accessBreaksPremise address length then .refused .offsetBeyondBank
    else complete s s.dev (.bytes (s.dev.readMemory address length buf))

end Sys2Proof.Machine
end

