-- ==== Sys2Proof/Machine/MiscDacStatus.lean ====
section
/-! DEFINITION. Port operations of the Misc register, the DAC and the status port, and the two retrace signals (R200 to R226). -/

namespace Sys2Proof.Machine

open Sys2Proof

/-- OUT PORT_MISC_WRITE (R200): no edge is marked. -/
def execOutPortMiscWrite (v : Byte) (s : State) : Host.Outcome State Fault Refusal :=
  complete s (s.dev.setMisc v) .none

/-- IN PORT_MISC_WRITE: any byte, no state changes (R127, U3). -/
def execInPortMiscWrite (s : State) : Host.Outcome State Fault Refusal :=
  completeOpenByte s

/-- OUT PORT_MISC_READ: ignored (R127). -/
def execOutPortMiscRead (_v : Byte) (s : State) : Host.Outcome State Fault Refusal :=
  complete s s.dev .none

/-- IN PORT_MISC_READ (R201). -/
def execInPortMiscRead (s : State) : Host.Outcome State Fault Refusal :=
  complete s s.dev (.byte s.dev.misc)

/-- OUT PORT_DAC_READ_INDEX (R203). -/
def execOutPortDacReadIndex (v : Byte) (s : State) : Host.Outcome State Fault Refusal :=
  complete s ((s.dev.setDacDir .read).setDacIndex (dacEntryStart v)) .none

/-- IN PORT_DAC_READ_INDEX: any byte, no state changes (R127, U3). -/
def execInPortDacReadIndex (s : State) : Host.Outcome State Fault Refusal :=
  completeOpenByte s

/-- OUT PORT_DAC_WRITE_INDEX (R204). -/
def execOutPortDacWriteIndex (v : Byte) (s : State) : Host.Outcome State Fault Refusal :=
  complete s ((s.dev.setDacDir .write).setDacIndex (dacEntryStart v)) .none

/-- IN PORT_DAC_WRITE_INDEX (R205). -/
def execInPortDacWriteIndex (s : State) : Host.Outcome State Fault Refusal :=
  complete s s.dev (.byte (BitVec.ofNat 8 (s.dev.dacIndex.val / 3)))

/-- OUT PORT_DAC_DATA (R206). -/
def execOutPortDacData (v : Byte) (s : State) : Host.Outcome State Fault Refusal :=
  complete s (s.dev.dacDataWrite v) .none

/-- IN PORT_DAC_DATA (R207): the byte at the index, which advances; in direction `Write` any byte and no state change (U1). -/
def execInPortDacData (s : State) : Host.Outcome State Fault Refusal :=
  match s.dev.dacDir with
  | .read => complete s (s.dev.setDacIndex (dacNext s.dev.dacIndex)) (.byte s.dev.dac[s.dev.dacIndex])
  | .write => completeOpenByte s

/-- OUT PORT_STATUS: ignored (R221). -/
def execOutPortStatus (_v : Byte) (s : State) : Host.Outcome State Fault Refusal :=
  complete s s.dev .none

/-- IN PORT_STATUS (R220): reports, then clears. -/
def execInPortStatus (s : State) : Host.Outcome State Fault Refusal :=
  complete s s.dev.clearStatus (.byte (statusByte s.dev.hRetrace s.dev.vRetrace))

/-- HRETRACE (R224). -/
def execHretrace (s : State) : Host.Outcome State Fault Refusal :=
  complete s (s.dev.setHRetrace true) .none

/-- VRETRACE (R225). -/
def execVretrace (s : State) : Host.Outcome State Fault Refusal :=
  complete s (s.dev.setVRetrace true) .none

end Sys2Proof.Machine
end

