-- ==== Sys2Proof/Machine/SeedOps.lean ====
section
/-! DEFINITION. LoadSeed (R396) and the three named seeds of R398, which are examples: no rule depends on them. -/

namespace Sys2Proof.Machine

open Sys2Proof

/-- The register load of R396: the five register files, and both edges marked. -/
@[simps!] def Device.loadSeed (d : Device) (x : Seed) : Device :=
  ((((((d.setMisc x.misc).setSeq x.seq).setGc x.gc).setCrtc x.crtc).setAc x.ac).setModeChanged true).setCursorMoved true

/-- SEED (R396). -/
def execSeed (x : Seed) (s : State) : Host.Outcome State Fault Refusal :=
  complete s (s.dev.loadSeed x) .none

/-- `TEXT80x25` (R398). -/
def seedText80x25 : Seed where
  misc := 0x67
  seq := #v[0x03, 0x00, 0x03, 0x00, 0x02]
  gc := #v[0x00, 0x00, 0x00, 0x00, 0x00, 0x10, 0x0E, 0x00, 0xFF]
  crtc := #v[0x5F, 0x4F, 0x50, 0x82, 0x55, 0x81, 0xBF, 0x1F, 0x00, 0x4F, 0x0D, 0x0E, 0x00, 0x00, 0x00, 0x00, 0x9C, 0x8E, 0x8F,
    0x28, 0x1F, 0x96, 0xB9, 0xA3, 0xFF]
  ac := #v[0x00, 0x01, 0x02, 0x03, 0x04, 0x05, 0x14, 0x07, 0x38, 0x39, 0x3A, 0x3B, 0x3C, 0x3D, 0x3E, 0x3F, 0x0C, 0x00, 0x0F, 0x08,
    0x00]

/-- `GFX320x200x256` (R398). -/
def seedGfx320x200x256 : Seed where
  misc := 0x63
  seq := #v[0x03, 0x01, 0x0F, 0x00, 0x0E]
  gc := #v[0x00, 0x00, 0x00, 0x00, 0x00, 0x40, 0x05, 0x0F, 0xFF]
  crtc := #v[0x5F, 0x4F, 0x50, 0x82, 0x54, 0x80, 0xBF, 0x1F, 0x00, 0x41, 0x00, 0x00, 0x00, 0x00, 0x00, 0x00, 0x9C, 0x8E, 0x8F,
    0x28, 0x40, 0x96, 0xB9, 0xA3, 0xFF]
  ac := #v[0x00, 0x01, 0x02, 0x03, 0x04, 0x05, 0x06, 0x07, 0x08, 0x09, 0x0A, 0x0B, 0x0C, 0x0D, 0x0E, 0x0F, 0x41, 0x00, 0x0F, 0x00,
    0x00]

/-- `GFX640x480x16` (R398). -/
def seedGfx640x480x16 : Seed where
  misc := 0xE3
  seq := #v[0x03, 0x01, 0x0F, 0x00, 0x06]
  gc := #v[0x00, 0x00, 0x00, 0x00, 0x00, 0x00, 0x05, 0x0F, 0xFF]
  crtc := #v[0x5F, 0x4F, 0x50, 0x82, 0x54, 0x80, 0x0B, 0x3E, 0x00, 0x40, 0x00, 0x00, 0x00, 0x00, 0x00, 0x00, 0xEA, 0x8C, 0xDF,
    0x28, 0x00, 0xE7, 0x04, 0xE3, 0xFF]
  ac := #v[0x00, 0x01, 0x02, 0x03, 0x04, 0x05, 0x14, 0x07, 0x38, 0x39, 0x3A, 0x3B, 0x3C, 0x3D, 0x3E, 0x3F, 0x01, 0x00, 0x0F, 0x00,
    0x00]

end Sys2Proof.Machine
end

