-- ==== Sys2Proof/Machine/SeqRegisters.lean ====
section
/-! DEFINITION. The table's rows for the 5 SEQ registers, one write and one read each (R133): the data access that reaches the
register its name gives (R152, R153). -/

namespace Sys2Proof.Machine

open Sys2Proof

/-- SEQ[0] write (SEQ_RESET) (R152): storage only. -/
def execWriteSeqReset (v : Byte) (s : State) : Host.Outcome State Fault Refusal :=
  complete s (s.dev.seqRowWrite 0 v) .none

/-- SEQ[0] read (SEQ_RESET) (R153). -/
def execReadSeqReset (s : State) : Host.Outcome State Fault Refusal :=
  complete s s.dev (.byte (readRow s.dev.seq s.dev.seqIndex 0))

/-- SEQ[1] write (SEQ_CLOCK) (R152): field DOT8 = bit 0. -/
def execWriteSeqClock (v : Byte) (s : State) : Host.Outcome State Fault Refusal :=
  complete s (s.dev.seqRowWrite 1 v) .none

/-- SEQ[1] read (SEQ_CLOCK) (R153). -/
def execReadSeqClock (s : State) : Host.Outcome State Fault Refusal :=
  complete s s.dev (.byte (readRow s.dev.seq s.dev.seqIndex 1))

/-- SEQ[2] write (SEQ_MAP_MASK) (R152): field MASK = bits 3:0. -/
def execWriteSeqMapMask (v : Byte) (s : State) : Host.Outcome State Fault Refusal :=
  complete s (s.dev.seqRowWrite 2 v) .none

/-- SEQ[2] read (SEQ_MAP_MASK) (R153). -/
def execReadSeqMapMask (s : State) : Host.Outcome State Fault Refusal :=
  complete s s.dev (.byte (readRow s.dev.seq s.dev.seqIndex 2))

/-- SEQ[3] write (SEQ_CHAR_MAP) (R152): storage only. -/
def execWriteSeqCharMap (v : Byte) (s : State) : Host.Outcome State Fault Refusal :=
  complete s (s.dev.seqRowWrite 3 v) .none

/-- SEQ[3] read (SEQ_CHAR_MAP) (R153). -/
def execReadSeqCharMap (s : State) : Host.Outcome State Fault Refusal :=
  complete s s.dev (.byte (readRow s.dev.seq s.dev.seqIndex 3))

/-- SEQ[4] write (SEQ_MEM) (R152): field C4 = bit 3. -/
def execWriteSeqMem (v : Byte) (s : State) : Host.Outcome State Fault Refusal :=
  complete s (s.dev.seqRowWrite 4 v) .none

/-- SEQ[4] read (SEQ_MEM) (R153). -/
def execReadSeqMem (s : State) : Host.Outcome State Fault Refusal :=
  complete s s.dev (.byte (readRow s.dev.seq s.dev.seqIndex 4))

end Sys2Proof.Machine
end

