-- ==== Sys2Proof/Machine/Dispatch.lean ====
section
/-! DEFINITION. The dispatch: one arm per constructor of Instr, each one direct call of its meaning. -/

namespace Sys2Proof.Machine

open Sys2Proof

def exec (i : Instr) (s : State) : Host.Outcome State Fault Refusal :=
  match i with
  | .outPortAcIndexData v => Sys2Proof.Machine.execOutPortAcIndexData v s
  | .inPortAcIndexData => Sys2Proof.Machine.execInPortAcIndexData s
  | .outPortAcRead v => Sys2Proof.Machine.execOutPortAcRead v s
  | .inPortAcRead => Sys2Proof.Machine.execInPortAcRead s
  | .outPortMiscWrite v => Sys2Proof.Machine.execOutPortMiscWrite v s
  | .inPortMiscWrite => Sys2Proof.Machine.execInPortMiscWrite s
  | .outPortSeqIndex v => Sys2Proof.Machine.execOutPortSeqIndex v s
  | .inPortSeqIndex => Sys2Proof.Machine.execInPortSeqIndex s
  | .outPortSeqData v => Sys2Proof.Machine.execOutPortSeqData v s
  | .inPortSeqData => Sys2Proof.Machine.execInPortSeqData s
  | .outPortDacReadIndex v => Sys2Proof.Machine.execOutPortDacReadIndex v s
  | .inPortDacReadIndex => Sys2Proof.Machine.execInPortDacReadIndex s
  | .outPortDacWriteIndex v => Sys2Proof.Machine.execOutPortDacWriteIndex v s
  | .inPortDacWriteIndex => Sys2Proof.Machine.execInPortDacWriteIndex s
  | .outPortDacData v => Sys2Proof.Machine.execOutPortDacData v s
  | .inPortDacData => Sys2Proof.Machine.execInPortDacData s
  | .outPortMiscRead v => Sys2Proof.Machine.execOutPortMiscRead v s
  | .inPortMiscRead => Sys2Proof.Machine.execInPortMiscRead s
  | .outPortGcIndex v => Sys2Proof.Machine.execOutPortGcIndex v s
  | .inPortGcIndex => Sys2Proof.Machine.execInPortGcIndex s
  | .outPortGcData v => Sys2Proof.Machine.execOutPortGcData v s
  | .inPortGcData => Sys2Proof.Machine.execInPortGcData s
  | .outPortCrtcIndex v => Sys2Proof.Machine.execOutPortCrtcIndex v s
  | .inPortCrtcIndex => Sys2Proof.Machine.execInPortCrtcIndex s
  | .outPortCrtcData v => Sys2Proof.Machine.execOutPortCrtcData v s
  | .inPortCrtcData => Sys2Proof.Machine.execInPortCrtcData s
  | .outPortStatus v => Sys2Proof.Machine.execOutPortStatus v s
  | .inPortStatus => Sys2Proof.Machine.execInPortStatus s
  | .writeSeqReset v => Sys2Proof.Machine.execWriteSeqReset v s
  | .readSeqReset => Sys2Proof.Machine.execReadSeqReset s
  | .writeSeqClock v => Sys2Proof.Machine.execWriteSeqClock v s
  | .readSeqClock => Sys2Proof.Machine.execReadSeqClock s
  | .writeSeqMapMask v => Sys2Proof.Machine.execWriteSeqMapMask v s
  | .readSeqMapMask => Sys2Proof.Machine.execReadSeqMapMask s
  | .writeSeqCharMap v => Sys2Proof.Machine.execWriteSeqCharMap v s
  | .readSeqCharMap => Sys2Proof.Machine.execReadSeqCharMap s
  | .writeSeqMem v => Sys2Proof.Machine.execWriteSeqMem v s
  | .readSeqMem => Sys2Proof.Machine.execReadSeqMem s
  | .writeGcSetReset v => Sys2Proof.Machine.execWriteGcSetReset v s
  | .readGcSetReset => Sys2Proof.Machine.execReadGcSetReset s
  | .writeGcEnableSetReset v => Sys2Proof.Machine.execWriteGcEnableSetReset v s
  | .readGcEnableSetReset => Sys2Proof.Machine.execReadGcEnableSetReset s
  | .writeGcColorCompare v => Sys2Proof.Machine.execWriteGcColorCompare v s
  | .readGcColorCompare => Sys2Proof.Machine.execReadGcColorCompare s
  | .writeGcRotate v => Sys2Proof.Machine.execWriteGcRotate v s
  | .readGcRotate => Sys2Proof.Machine.execReadGcRotate s
  | .writeGcReadMap v => Sys2Proof.Machine.execWriteGcReadMap v s
  | .readGcReadMap => Sys2Proof.Machine.execReadGcReadMap s
  | .writeGcMode v => Sys2Proof.Machine.execWriteGcMode v s
  | .readGcMode => Sys2Proof.Machine.execReadGcMode s
  | .writeGcMisc v => Sys2Proof.Machine.execWriteGcMisc v s
  | .readGcMisc => Sys2Proof.Machine.execReadGcMisc s
  | .writeGcDontCare v => Sys2Proof.Machine.execWriteGcDontCare v s
  | .readGcDontCare => Sys2Proof.Machine.execReadGcDontCare s
  | .writeGcBitMask v => Sys2Proof.Machine.execWriteGcBitMask v s
  | .readGcBitMask => Sys2Proof.Machine.execReadGcBitMask s
  | .writeCrtcHorzTotal v => Sys2Proof.Machine.execWriteCrtcHorzTotal v s
  | .readCrtcHorzTotal => Sys2Proof.Machine.execReadCrtcHorzTotal s
  | .writeCrtcEndHorzDisp v => Sys2Proof.Machine.execWriteCrtcEndHorzDisp v s
  | .readCrtcEndHorzDisp => Sys2Proof.Machine.execReadCrtcEndHorzDisp s
  | .writeCrtcStartHorzBlank v => Sys2Proof.Machine.execWriteCrtcStartHorzBlank v s
  | .readCrtcStartHorzBlank => Sys2Proof.Machine.execReadCrtcStartHorzBlank s
  | .writeCrtcEndHorzBlank v => Sys2Proof.Machine.execWriteCrtcEndHorzBlank v s
  | .readCrtcEndHorzBlank => Sys2Proof.Machine.execReadCrtcEndHorzBlank s
  | .writeCrtcStartHorzRetrace v => Sys2Proof.Machine.execWriteCrtcStartHorzRetrace v s
  | .readCrtcStartHorzRetrace => Sys2Proof.Machine.execReadCrtcStartHorzRetrace s
  | .writeCrtcEndHorzRetrace v => Sys2Proof.Machine.execWriteCrtcEndHorzRetrace v s
  | .readCrtcEndHorzRetrace => Sys2Proof.Machine.execReadCrtcEndHorzRetrace s
  | .writeCrtcVertTotal v => Sys2Proof.Machine.execWriteCrtcVertTotal v s
  | .readCrtcVertTotal => Sys2Proof.Machine.execReadCrtcVertTotal s
  | .writeCrtcOverflow v => Sys2Proof.Machine.execWriteCrtcOverflow v s
  | .readCrtcOverflow => Sys2Proof.Machine.execReadCrtcOverflow s
  | .writeCrtcPresetRowScan v => Sys2Proof.Machine.execWriteCrtcPresetRowScan v s
  | .readCrtcPresetRowScan => Sys2Proof.Machine.execReadCrtcPresetRowScan s
  | .writeCrtcMaxScan v => Sys2Proof.Machine.execWriteCrtcMaxScan v s
  | .readCrtcMaxScan => Sys2Proof.Machine.execReadCrtcMaxScan s
  | .writeCrtcCursorStart v => Sys2Proof.Machine.execWriteCrtcCursorStart v s
  | .readCrtcCursorStart => Sys2Proof.Machine.execReadCrtcCursorStart s
  | .writeCrtcCursorEnd v => Sys2Proof.Machine.execWriteCrtcCursorEnd v s
  | .readCrtcCursorEnd => Sys2Proof.Machine.execReadCrtcCursorEnd s
  | .writeCrtcStartHigh v => Sys2Proof.Machine.execWriteCrtcStartHigh v s
  | .readCrtcStartHigh => Sys2Proof.Machine.execReadCrtcStartHigh s
  | .writeCrtcStartLow v => Sys2Proof.Machine.execWriteCrtcStartLow v s
  | .readCrtcStartLow => Sys2Proof.Machine.execReadCrtcStartLow s
  | .writeCrtcCursorLocHigh v => Sys2Proof.Machine.execWriteCrtcCursorLocHigh v s
  | .readCrtcCursorLocHigh => Sys2Proof.Machine.execReadCrtcCursorLocHigh s
  | .writeCrtcCursorLocLow v => Sys2Proof.Machine.execWriteCrtcCursorLocLow v s
  | .readCrtcCursorLocLow => Sys2Proof.Machine.execReadCrtcCursorLocLow s
  | .writeCrtcVertRetraceStart v => Sys2Proof.Machine.execWriteCrtcVertRetraceStart v s
  | .readCrtcVertRetraceStart => Sys2Proof.Machine.execReadCrtcVertRetraceStart s
  | .writeCrtcVertRetraceEnd v => Sys2Proof.Machine.execWriteCrtcVertRetraceEnd v s
  | .readCrtcVertRetraceEnd => Sys2Proof.Machine.execReadCrtcVertRetraceEnd s
  | .writeCrtcVertDispEnd v => Sys2Proof.Machine.execWriteCrtcVertDispEnd v s
  | .readCrtcVertDispEnd => Sys2Proof.Machine.execReadCrtcVertDispEnd s
  | .writeCrtcOffset v => Sys2Proof.Machine.execWriteCrtcOffset v s
  | .readCrtcOffset => Sys2Proof.Machine.execReadCrtcOffset s
  | .writeCrtcUnderline v => Sys2Proof.Machine.execWriteCrtcUnderline v s
  | .readCrtcUnderline => Sys2Proof.Machine.execReadCrtcUnderline s
  | .writeCrtcStartVertBlank v => Sys2Proof.Machine.execWriteCrtcStartVertBlank v s
  | .readCrtcStartVertBlank => Sys2Proof.Machine.execReadCrtcStartVertBlank s
  | .writeCrtcEndVertBlank v => Sys2Proof.Machine.execWriteCrtcEndVertBlank v s
  | .readCrtcEndVertBlank => Sys2Proof.Machine.execReadCrtcEndVertBlank s
  | .writeCrtcMode v => Sys2Proof.Machine.execWriteCrtcMode v s
  | .readCrtcMode => Sys2Proof.Machine.execReadCrtcMode s
  | .writeCrtcLineCompare v => Sys2Proof.Machine.execWriteCrtcLineCompare v s
  | .readCrtcLineCompare => Sys2Proof.Machine.execReadCrtcLineCompare s
  | .writeAcPal0 v => Sys2Proof.Machine.execWriteAcPal0 v s
  | .readAcPal0 => Sys2Proof.Machine.execReadAcPal0 s
  | .writeAcPal1 v => Sys2Proof.Machine.execWriteAcPal1 v s
  | .readAcPal1 => Sys2Proof.Machine.execReadAcPal1 s
  | .writeAcPal2 v => Sys2Proof.Machine.execWriteAcPal2 v s
  | .readAcPal2 => Sys2Proof.Machine.execReadAcPal2 s
  | .writeAcPal3 v => Sys2Proof.Machine.execWriteAcPal3 v s
  | .readAcPal3 => Sys2Proof.Machine.execReadAcPal3 s
  | .writeAcPal4 v => Sys2Proof.Machine.execWriteAcPal4 v s
  | .readAcPal4 => Sys2Proof.Machine.execReadAcPal4 s
  | .writeAcPal5 v => Sys2Proof.Machine.execWriteAcPal5 v s
  | .readAcPal5 => Sys2Proof.Machine.execReadAcPal5 s
  | .writeAcPal6 v => Sys2Proof.Machine.execWriteAcPal6 v s
  | .readAcPal6 => Sys2Proof.Machine.execReadAcPal6 s
  | .writeAcPal7 v => Sys2Proof.Machine.execWriteAcPal7 v s
  | .readAcPal7 => Sys2Proof.Machine.execReadAcPal7 s
  | .writeAcPal8 v => Sys2Proof.Machine.execWriteAcPal8 v s
  | .readAcPal8 => Sys2Proof.Machine.execReadAcPal8 s
  | .writeAcPal9 v => Sys2Proof.Machine.execWriteAcPal9 v s
  | .readAcPal9 => Sys2Proof.Machine.execReadAcPal9 s
  | .writeAcPal10 v => Sys2Proof.Machine.execWriteAcPal10 v s
  | .readAcPal10 => Sys2Proof.Machine.execReadAcPal10 s
  | .writeAcPal11 v => Sys2Proof.Machine.execWriteAcPal11 v s
  | .readAcPal11 => Sys2Proof.Machine.execReadAcPal11 s
  | .writeAcPal12 v => Sys2Proof.Machine.execWriteAcPal12 v s
  | .readAcPal12 => Sys2Proof.Machine.execReadAcPal12 s
  | .writeAcPal13 v => Sys2Proof.Machine.execWriteAcPal13 v s
  | .readAcPal13 => Sys2Proof.Machine.execReadAcPal13 s
  | .writeAcPal14 v => Sys2Proof.Machine.execWriteAcPal14 v s
  | .readAcPal14 => Sys2Proof.Machine.execReadAcPal14 s
  | .writeAcPal15 v => Sys2Proof.Machine.execWriteAcPal15 v s
  | .readAcPal15 => Sys2Proof.Machine.execReadAcPal15 s
  | .writeAcMode v => Sys2Proof.Machine.execWriteAcMode v s
  | .readAcMode => Sys2Proof.Machine.execReadAcMode s
  | .writeAcOverscan v => Sys2Proof.Machine.execWriteAcOverscan v s
  | .readAcOverscan => Sys2Proof.Machine.execReadAcOverscan s
  | .writeAcPlaneEnable v => Sys2Proof.Machine.execWriteAcPlaneEnable v s
  | .readAcPlaneEnable => Sys2Proof.Machine.execReadAcPlaneEnable s
  | .writeAcPanning v => Sys2Proof.Machine.execWriteAcPanning v s
  | .readAcPanning => Sys2Proof.Machine.execReadAcPanning s
  | .writeAcColorSelect v => Sys2Proof.Machine.execWriteAcColorSelect v s
  | .readAcColorSelect => Sys2Proof.Machine.execReadAcColorSelect s
  | .memw address bytes => Sys2Proof.Machine.execMemw address bytes s
  | .memr address length buf => Sys2Proof.Machine.execMemr address length buf s
  | .refresh => Sys2Proof.Machine.execRefresh s
  | .hretrace => Sys2Proof.Machine.execHretrace s
  | .vretrace => Sys2Proof.Machine.execVretrace s
  | .res => Sys2Proof.Machine.execRes s
  | .istext => Sys2Proof.Machine.execIstext s
  | .takedirty => Sys2Proof.Machine.execTakedirty s
  | .surf element => Sys2Proof.Machine.execSurf element s
  | .cursor => Sys2Proof.Machine.execCursor s
  | .seed x => Sys2Proof.Machine.execSeed x s

end Sys2Proof.Machine
end

