-- ==== Sys2Proof/Machine/Step.lean ====
section
/-! DEFINITION. One step: the block takes the oldest operation issued to it and runs it (R6, R104, R134). -/

namespace Sys2Proof.Machine

open Sys2Proof

/-- With no operation issued nothing happens (R6); else the operation runs with the rest still pending (R104); bytes that are no
operation of the block are refused (R84, R128). -/
def step (s : State) : Host.Outcome State Fault Refusal :=
  match fetch s.pending with
  | .idle => .next s
  | .operation i rest => exec i { s with pending := rest }
  | .stop r => .refused r

/-- `s` with the operation that a table word stands for issued before everything pending (log entry 1). -/
def State.withFetchWord (s : State) (nbits w : Nat) : State :=
  { s with pending := tableOperation nbits w ++ s.pending }

end Sys2Proof.Machine
end

