-- ==== Sys2Proof/Safety.lean ====
section
/-! DEFINITION. What a good state is. R365: a state with `fatal` set is never a good final state. The invariant gathers the facts
the spec states of every reachable state (R44, R45, R48 by the types, R50, R306 to R308, R334, R364). -/

namespace Sys2Proof.Machine

open Sys2Proof

/-- The session is not over (R365). -/
def Safe (s : State) : Prop := s.dev.fatal = false

/-- A grid has the `h` rows of `w` elements it says (R44). -/
def Surface.wf : Surface → Bool
  | .none => true
  | .text w h cells => cells.length == h && cells.all fun row => row.length == w
  | .gfx w h pixels => pixels.length == h && pixels.all fun row => row.length == w

/-- `left <= right`, `top <= bottom` (R45), and every coordinate is one of the current surface (R334: a taken rectangle "never refers
to a released surface"). -/
def DirtyRegion.within (x : Surface) : DirtyRegion → Bool
  | .empty => true
  | .rect l t r b =>
    match x.geometry with
    | none => false
    | some g => decide (l ≤ r) && decide (t ≤ b) && decide (r < g.width) && decide (b < g.height)

/-- `(row i, column j)` lies in the region (R45: the coordinates are inclusive). -/
def DirtyRegion.contains : DirtyRegion → Nat → Nat → Bool
  | .empty, _, _ => false
  | .rect l t r b, i, j => decide (l ≤ j) && decide (j ≤ r) && decide (t ≤ i) && decide (i ≤ b)

/-- `left <= right`, `top <= bottom` (R45). -/
def Ordered : DirtyRegion → Prop
  | .empty => True
  | .rect l t r b => l ≤ r ∧ t ≤ b

/-- Every coordinate of `x` is one of `y`. -/
def RegionLe (x y : DirtyRegion) : Prop := ∀ i j, x.contains i j = true → y.contains i j = true

/-- The byte at linear address `a` is stored at byte `o` of plane `k` (R95, R243, R245). -/
def Hits (d : Device) (a : Addr) (k o : Nat) : Prop :=
  d.inWindow a = true ∧ k < Config.numPlanes ∧ d.eligible a k = true ∧ o = d.writeOffset (d.relOffset a)

/-- Neither gate of WriteMemory is closed (R241, R242). -/
def WriteGatesOpen (d : Device) : Prop := d.ramEnabled = true ∧ d.mapMask ≠ 0

/-- The invariant of the device. -/
structure Device.Inv (d : Device) : Prop where
  /-- the planes are in canonical form and inside the four banks (R38) -/
  planes : d.planes.wf = true
  /-- the surface has the size it was allocated with (R44) -/
  surface : d.surface.wf = true
  /-- the dirty region is ordered and inside the surface (R45, R334) -/
  dirty : d.dirty.within d.surface = true
  /-- a dirty region that is not empty has been flagged for repaint (R308, R340) -/
  flagged : d.dirty ≠ .empty → d.repaintPending = true
  /-- after the fatal condition there is no surface and no edge left (R364) -/
  ended : d.fatal = true → d.surface = .none ∧ d.modeChanged = false
  /-- "`None` exists only between reset and the first `RefreshDisplay`" (R44), or after the fatal condition (R364) -/
  absent : d.surface = .none → d.fatal = true ∨ d.modeChanged = true

/-- The invariant of the machine. -/
def Inv (s : State) : Prop := s.dev.Inv

end Sys2Proof.Machine
end

