-- ==== Sys2Proof/Certificates/Slice0/Obligations.lean ====
section
/-! DEFINITION. The statements for the provers. A statement "about an operation" gives the whole next state as an equation, so that
it says what changes and that nothing else does. `Safe s` is R365's condition, the only one under which an operation is accepted. -/

open Sys2Proof Sys2Proof.Machine

/-! ### Decoding, encoding, the step -/

/-- Decoding the bytes of any well-formed operation gives the operation back, with what followed it. The byte form is the model's
choice (log entry 1): the source defines no binary encoding (R132). -/
def Obligations.DecodeEncodeRoundTrip : Prop :=
  ∀ i : Instr, i.wellFormed = true → ∀ rest : List Byte, decode (encode i ++ rest) = .ok (i, rest)

/-- A few operations written out byte by byte: a port write, a port read, a register's row, a memory write, a call. -/
def Obligations.DecodeReadsWrittenBytes : Prop :=
  decode [0xC4, 0x03, 0x00, 0x02] = .ok (.outPortSeqIndex 0x02, []) ∧
  decode [0xDA, 0x03, 0x03] = .ok (.inPortStatus, []) ∧
  decode [0xCF, 0x03, 0x05, 0x06, 0x05] = .ok (.writeGcMisc 0x05, []) ∧
  decode [0xC1, 0x03, 0x06, 0x14] = .ok (.readAcColorSelect, []) ∧
  decode [0x00, 0x00, 0x07, 0x00, 0x80, 0x0B, 0x00, 0x01, 0x41, 0x01, 0x07, 0x00] = .ok (.memw 0xB8000 [0x41, 0x07], []) ∧
  decode [0x00, 0x00, 0x11] = .ok (.refresh, [])

/-- First-level decode matches all 16 bits of the port number, with no aliasing (R121, decision D17). -/
def Obligations.PortDecodeIsExact : Prop :=
  ∀ (p : Port) (n : PortName), portNamed p = some n ↔ p = Config.portNumber n

/-- A step runs the operation that the oldest pending bytes decode to, with the rest still pending. -/
def Obligations.StepRunsDecodedOperation : Prop :=
  ∀ (s : State) (i : Instr) (rest : List Byte), i.wellFormed = true → decode s.pending = .ok (i, rest) →
    step s = exec i { s with pending := rest }

/-- With no operation issued a step changes nothing: the block has no autonomous step (R6; log entry 15). -/
def Obligations.IdleStepChangesNothing : Prop :=
  ∀ s : State, s.pending = [] → step s = .next s

/-- A byte access to a port that is none of the 14 is refused at the boundary, in either direction (R128, decision D17). -/
def Obligations.UnclaimedPortAccessIsRefused : Prop :=
  ∀ (s : State) (p : Port) (v : Byte) (rest : List Byte), (∀ n, p ≠ Config.portNumber n) →
    step { s with pending := p.extractLsb' 0 8 :: p.extractLsb' 8 8 :: 0x00 :: v :: rest } = .refused (.unclaimedPort p) ∧
    step { s with pending := p.extractLsb' 0 8 :: p.extractLsb' 8 8 :: 0x03 :: rest } = .refused (.unclaimedPort p)

/-! ### Invariants and whole-machine rules -/

/-- Reset: the SEQ and CRTC index registers at their documented defaults (R60); beyond those the values are the spec's decision D15
(log entry 9): no surface, nothing dirty, the mode edge set, the session on, RAM disabled, every byte of every plane 0, and the
registers resolving to one text cell. -/
def Obligations.ResetLeaves : Prop :=
  State.reset.dev.seqIndex.val = 0 ∧ State.reset.dev.crtcIndex.val = 0 ∧ State.reset.dev.surface = .none ∧
  State.reset.dev.dirty = .empty ∧ State.reset.dev.modeChanged = true ∧ Safe State.reset ∧ State.reset.dev.ramEnabled = false ∧
  (∀ k o, State.reset.dev.planeByte k o = 0) ∧ State.reset.dev.geometry = ⟨true, 1, 1⟩

/-- The reset state meets the invariant. -/
def Obligations.ResetMeetsInvariant : Prop := Inv State.reset

/-- Every step keeps the invariant: canonical planes, a surface of its own size, an ordered dirty region inside the surface, a
flagged repaint, no surface and no edge after the fatal condition, no surface only before the first refresh or after it. -/
def Obligations.StepKeepsInvariant : Prop :=
  ∀ s t : State, Inv s → step s = .next t → Inv t

/-- Once `fatal` is set every operation is refused (R365, decision D37). -/
def Obligations.EndedSessionRefusesEveryOperation : Prop :=
  ∀ (i : Instr) (s : State), s.dev.fatal = true → exec i s = .refused .sessionEnded

/-- Ownership (R110): the planes change only through WriteMemory, the surface only through RefreshDisplay. -/
def Obligations.OwnershipOfPlanesAndSurface : Prop :=
  ∀ (i : Instr) (s t : State), exec i s = .next t →
    ((∀ a bs, i ≠ .memw a bs) → t.dev.planes = s.dev.planes) ∧ (i ≠ .refresh → t.dev.surface = s.dev.surface)

/-- Nothing but the two signals sets a retrace flag and nothing but the status read clears one (R226). -/
def Obligations.RetraceFlagWriters : Prop :=
  ∀ (i : Instr) (s t : State), exec i s = .next t →
    (i ≠ .hretrace → i ≠ .inPortStatus → t.dev.hRetrace = s.dev.hRetrace) ∧
    (i ≠ .vretrace → i ≠ .inPortStatus → t.dev.vRetrace = s.dev.vRetrace) ∧
    (i ≠ .inPortStatus → (s.dev.hRetrace = true → t.dev.hRetrace = true) ∧ (s.dev.vRetrace = true → t.dev.vRetrace = true))

/-- Only a write to the AC index/data port, its register rows included, and the status read change the AC latch (R33). -/
def Obligations.AcLatchWriters : Prop :=
  ∀ (i : Instr) (s t : State), exec i s = .next t → (∀ v, i ≠ .outPortAcIndexData v) → (∀ n v, i ≠ acWriteRow n v) →
    i ≠ .inPortStatus → t.dev.acLatch = s.dev.acLatch

/-- The palette, its index and its direction change only through the DAC's own ports (R35, R36, R37). -/
def Obligations.DacWriters : Prop :=
  ∀ (i : Instr) (s t : State), exec i s = .next t →
    ((∀ v, i ≠ .outPortDacData v) → t.dev.dac = s.dev.dac) ∧
    ((∀ v, i ≠ .outPortDacReadIndex v) → (∀ v, i ≠ .outPortDacWriteIndex v) → t.dev.dacDir = s.dev.dacDir ∧
      ((∀ v, i ≠ .outPortDacData v) → i ≠ .inPortDacData → t.dev.dacIndex = s.dev.dacIndex))

/-- The host never changes block state except through TakeDirtyRegion, which empties the dirty region and the repaint flag alone
(R341). -/
def Obligations.HostOperationsArePure : Prop :=
  ∀ (i : Instr) (s t : State), exec i s = .next t →
    ((i = .res ∨ i = .istext ∨ i = .cursor ∨ ∃ e, i = .surf e) → t.dev = s.dev) ∧
    (i = .takedirty → t.dev = { s.dev with dirty := .empty, repaintPending := false })

/-- `mode_changed` is set only by a data write to GC_MISC, END_HORZ_DISP, OVERFLOW or VERT_DISP_END and by the seed, and cleared only
by RefreshDisplay (R40). -/
def Obligations.ModeEdgeWriters : Prop :=
  ∀ (i : Instr) (s t : State), exec i s = .next t →
    (s.dev.modeChanged = false → t.dev.modeChanged = true →
      (∃ x, i = .seed x) ∨
      (s.dev.gcIndex = 6 ∧ ((∃ v, i = .outPortGcData v) ∨ ∃ n v, i = gcWriteRow n v)) ∨
      ((s.dev.crtcIndex = 0x01 ∨ s.dev.crtcIndex = 0x07 ∨ s.dev.crtcIndex = 0x12) ∧
        ((∃ v, i = .outPortCrtcData v) ∨ ∃ n v, i = crtcWriteRow n v))) ∧
    (s.dev.modeChanged = true → t.dev.modeChanged = false → i = .refresh)

/-! ### Index and data ports -/

/-- OUT to the SEQ, GC and CRTC index ports: the index if it is below the group's count, else the prior one (R150, R160, R170). -/
def Obligations.IndexPortWrites : Prop :=
  ∀ (v : Byte) (s : State), Safe s →
    exec (.outPortSeqIndex v) s = .next { s with
      dev := { s.dev with seqIndex := if h : v.toNat < 5 then ⟨v.toNat, h⟩ else s.dev.seqIndex }, answer := .none } ∧
    exec (.outPortGcIndex v) s = .next { s with
      dev := { s.dev with gcIndex := if h : v.toNat < 9 then ⟨v.toNat, h⟩ else s.dev.gcIndex }, answer := .none } ∧
    exec (.outPortCrtcIndex v) s = .next { s with
      dev := { s.dev with crtcIndex := if h : v.toNat < 25 then ⟨v.toNat, h⟩ else s.dev.crtcIndex }, answer := .none }

/-- IN from the four index ports returns the index and changes nothing else (R151, R161, R171, R183). -/
def Obligations.IndexPortReads : Prop :=
  ∀ s : State, Safe s →
    exec .inPortSeqIndex s = .next { s with answer := .byte (BitVec.ofNat 8 s.dev.seqIndex.val) } ∧
    exec .inPortGcIndex s = .next { s with answer := .byte (BitVec.ofNat 8 s.dev.gcIndex.val) } ∧
    exec .inPortCrtcIndex s = .next { s with answer := .byte (BitVec.ofNat 8 s.dev.crtcIndex.val) } ∧
    exec .inPortAcIndexData s = .next { s with answer := .byte (BitVec.ofNat 8 s.dev.acIndex.val) }

/-- OUT PORT_SEQ_DATA writes all 8 bits of the selected register and marks no edge (R152). -/
def Obligations.SeqDataPortWrite : Prop :=
  ∀ (v : Byte) (s : State), Safe s →
    exec (.outPortSeqData v) s = .next { s with
      dev := { s.dev with seq := s.dev.seq.set s.dev.seqIndex.val v s.dev.seqIndex.isLt }, answer := .none }

/-- OUT PORT_GC_DATA writes the selected register; GC_MISC marks `mode_changed` whatever the value (R162). -/
def Obligations.GcDataPortWrite : Prop :=
  ∀ (v : Byte) (s : State), Safe s →
    exec (.outPortGcData v) s = .next { s with
      dev := { s.dev with
        gc := s.dev.gc.set s.dev.gcIndex.val v s.dev.gcIndex.isLt
        modeChanged := if s.dev.gcIndex = 6 then true else s.dev.modeChanged }
      answer := .none }

/-- The side effect of writing GC_MISC (R163): the edge whatever is written, and the new fields decide text or graphics at the next
resolution and the window of the very next memory operation. -/
def Obligations.GcMiscWriteMarksTheEdge : Prop :=
  ∀ (v : Byte) (s : State), Safe s → s.dev.gcIndex = 6 →
    ∃ t, exec (.outPortGcData v) s = .next t ∧ t.dev.modeChanged = true ∧ t.dev.gc[6] = v ∧
      t.dev.resolveMode.isText = !v.getLsbD 0 ∧ t.dev.window = Config.window (v.extractLsb' 2 2).toFin

/-- OUT PORT_CRTC_DATA writes the selected register, whatever the others hold; the display-end registers mark `mode_changed`, the
cursor registers `cursor_moved` (R172, R173, R174). -/
def Obligations.CrtcDataPortWrite : Prop :=
  ∀ (v : Byte) (s : State), Safe s →
    exec (.outPortCrtcData v) s = .next { s with
      dev := { s.dev with
        crtc := s.dev.crtc.set s.dev.crtcIndex.val v s.dev.crtcIndex.isLt
        modeChanged :=
          if s.dev.crtcIndex = 0x01 ∨ s.dev.crtcIndex = 0x07 ∨ s.dev.crtcIndex = 0x12 then true else s.dev.modeChanged
        cursorMoved :=
          if s.dev.crtcIndex = 0x0A ∨ s.dev.crtcIndex = 0x0B ∨ s.dev.crtcIndex = 0x0E ∨ s.dev.crtcIndex = 0x0F then true
          else s.dev.cursorMoved }
      answer := .none }

/-- OUT PORT_AC_INDEX_DATA: an index write when the latch is false (an index of 21 or more is ignored), a data write when it is true,
and the latch toggles either way (R180). -/
def Obligations.AcPortWrite : Prop :=
  ∀ (v : Byte) (s : State), Safe s →
    (s.dev.acLatch = false → exec (.outPortAcIndexData v) s = .next { s with
      dev := { s.dev with acIndex := if h : v.toNat < 21 then ⟨v.toNat, h⟩ else s.dev.acIndex, acLatch := true }
      answer := .none }) ∧
    (s.dev.acLatch = true → exec (.outPortAcIndexData v) s = .next { s with
      dev := { s.dev with ac := s.dev.ac.set s.dev.acIndex.val v s.dev.acIndex.isLt, acLatch := false }
      answer := .none })

/-- IN from the four data ports returns all 8 bits of the selected register and changes nothing, the AC latch included (R153, R164,
R175, R184). -/
def Obligations.DataPortReads : Prop :=
  ∀ s : State, Safe s →
    exec .inPortSeqData s = .next { s with answer := .byte s.dev.seq[s.dev.seqIndex.val] } ∧
    exec .inPortGcData s = .next { s with answer := .byte s.dev.gc[s.dev.gcIndex.val] } ∧
    exec .inPortCrtcData s = .next { s with answer := .byte s.dev.crtc[s.dev.crtcIndex.val] } ∧
    exec .inPortAcRead s = .next { s with answer := .byte s.dev.ac[s.dev.acIndex.val] }

/-! ### The registers' own rows -/

/-- The ten SEQ rows, while `seq_index` holds the row's number: the write stores all 8 bits in that register and marks no edge, the
read returns it (R133, R152, R153). `seqWriteRow n` is, for n = 0 to 4, writeSeqReset, writeSeqClock, writeSeqMapMask, writeSeqCharMap,
writeSeqMem; `seqReadRow n` the reads of the same names. -/
def Obligations.SeqRegisterRows : Prop :=
  ∀ (n : Fin 5) (v : Byte) (s : State), Safe s → s.dev.seqIndex = n →
    exec (seqWriteRow n v) s = .next { s with dev := { s.dev with seq := s.dev.seq.set n.val v n.isLt }, answer := .none } ∧
    exec (seqReadRow n) s = .next { s with answer := .byte s.dev.seq[n.val] }

/-- The eighteen GC rows, while `gc_index` holds the row's number: row 6 (writeGcMisc) marks `mode_changed`, no other does (R133, R162,
R163, R164). `gcWriteRow n`, `gcReadRow n` for n = 0 to 8 are the writes and reads of GcSetReset, GcEnableSetReset, GcColorCompare,
GcRotate, GcReadMap, GcMode, GcMisc, GcDontCare, GcBitMask. -/
def Obligations.GcRegisterRows : Prop :=
  ∀ (n : Fin 9) (v : Byte) (s : State), Safe s → s.dev.gcIndex = n →
    exec (gcWriteRow n v) s = .next { s with
      dev := { s.dev with gc := s.dev.gc.set n.val v n.isLt, modeChanged := if n = 6 then true else s.dev.modeChanged }
      answer := .none } ∧
    exec (gcReadRow n) s = .next { s with answer := .byte s.dev.gc[n.val] }

/-- The fifty CRTC rows, while `crtc_index` holds the row's number: rows 0x01, 0x07, 0x12 mark `mode_changed`, rows 0x0A, 0x0B, 0x0E,
0x0F `cursor_moved`, no other marks anything (R133, R172 to R175). `crtcWriteRow n`, `crtcReadRow n` for n = 0 to 0x18 are the writes
and reads of the CRTC registers in index order, CrtcHorzTotal to CrtcLineCompare. -/
def Obligations.CrtcRegisterRows : Prop :=
  ∀ (n : Fin 25) (v : Byte) (s : State), Safe s → s.dev.crtcIndex = n →
    exec (crtcWriteRow n v) s = .next { s with
      dev := { s.dev with
        crtc := s.dev.crtc.set n.val v n.isLt
        modeChanged := if n = 0x01 ∨ n = 0x07 ∨ n = 0x12 then true else s.dev.modeChanged
        cursorMoved := if n = 0x0A ∨ n = 0x0B ∨ n = 0x0E ∨ n = 0x0F then true else s.dev.cursorMoved }
      answer := .none } ∧
    exec (crtcReadRow n) s = .next { s with answer := .byte s.dev.crtc[n.val] }

/-- The forty-two AC rows, while `ac_index` holds the row's number: the write, when the latch is true, stores all 8 bits, clears the
latch and marks no edge; the read changes nothing, whatever the latch (R133, R180, R184). `acWriteRow n`, `acReadRow n` for n = 0 to
0x14 are the writes and reads of AcPal0 to AcPal15, AcMode, AcOverscan, AcPlaneEnable, AcPanning, AcColorSelect. -/
def Obligations.AcRegisterRows : Prop :=
  ∀ (n : Fin 21) (v : Byte) (s : State), Safe s → s.dev.acIndex = n →
    (s.dev.acLatch = true → exec (acWriteRow n v) s = .next { s with
      dev := { s.dev with ac := s.dev.ac.set n.val v n.isLt, acLatch := false }, answer := .none }) ∧
    exec (acReadRow n) s = .next { s with answer := .byte s.dev.ac[n.val] }

/-- In every state a register's row does what the port access it is written with does (R122, R133, R405). That a row runs at all when
the index register holds another number is the model's choice (log entry 11). -/
def Obligations.RegisterRowsAreThePortAccess : Prop :=
  ∀ (v : Byte) (s : State),
    (∀ n, exec (seqWriteRow n v) s = exec (.outPortSeqData v) s ∧ exec (seqReadRow n) s = exec .inPortSeqData s) ∧
    (∀ n, exec (gcWriteRow n v) s = exec (.outPortGcData v) s ∧ exec (gcReadRow n) s = exec .inPortGcData s) ∧
    (∀ n, exec (crtcWriteRow n v) s = exec (.outPortCrtcData v) s ∧ exec (crtcReadRow n) s = exec .inPortCrtcData s) ∧
    (∀ n, exec (acWriteRow n v) s = exec (.outPortAcIndexData v) s ∧ exec (acReadRow n) s = exec .inPortAcRead s)

/-! ### Ports without an index: ignored accesses, Misc, DAC, status -/

/-- The unused directions (R127, R221): writes to PORT_AC_READ, PORT_MISC_READ and PORT_STATUS leave the device as it is; reads of
PORT_MISC_WRITE and PORT_DAC_READ_INDEX return a byte the rules do not determine and leave the device as it is. The byte is the opaque
`Config.openByte` at the model's own counter (log entry 5). -/
def Obligations.UnusedPortDirections : Prop :=
  ∀ (v : Byte) (s : State), Safe s →
    exec (.outPortAcRead v) s = .next { s with answer := .none } ∧
    exec (.outPortMiscRead v) s = .next { s with answer := .none } ∧
    exec (.outPortStatus v) s = .next { s with answer := .none } ∧
    exec .inPortMiscWrite s = .next { s with answer := .byte (Config.openByte s.draws), draws := s.draws + 1 } ∧
    exec .inPortDacReadIndex s = .next { s with answer := .byte (Config.openByte s.draws), draws := s.draws + 1 }

/-- The Misc register: a write stores all 8 bits and marks no edge, a read returns them (R200, R201). -/
def Obligations.MiscPorts : Prop :=
  ∀ (v : Byte) (s : State), Safe s →
    exec (.outPortMiscWrite v) s = .next { s with dev := { s.dev with misc := v }, answer := .none } ∧
    exec .inPortMiscRead s = .next { s with answer := .byte s.dev.misc }

/-- The DAC index ports: either fixes the direction and sets the byte index to three times the entry; the read-back divides by three
(R203, R204, R205). -/
def Obligations.DacIndexPorts : Prop :=
  ∀ (v : Byte) (s : State), Safe s →
    (∃ t, exec (.outPortDacReadIndex v) s = .next t ∧ t.dev.dacIndex.val = 3 * v.toNat ∧
      t = { s with dev := { s.dev with dacDir := .read, dacIndex := t.dev.dacIndex }, answer := .none }) ∧
    (∃ t, exec (.outPortDacWriteIndex v) s = .next t ∧ t.dev.dacIndex.val = 3 * v.toNat ∧
      t = { s with dev := { s.dev with dacDir := .write, dacIndex := t.dev.dacIndex }, answer := .none }) ∧
    exec .inPortDacWriteIndex s = .next { s with answer := .byte (BitVec.ofNat 8 (s.dev.dacIndex.val / 3)) }

/-- OUT PORT_DAC_DATA: in direction Write the raw byte is stored, the index advances modulo 768 and `palette_changed` is set; in
direction Read the write is dropped (R206). -/
def Obligations.DacDataPortWrite : Prop :=
  ∀ (v : Byte) (s : State), Safe s →
    (s.dev.dacDir = .write → ∃ t, exec (.outPortDacData v) s = .next t ∧ t.dev.dacIndex.val = (s.dev.dacIndex.val + 1) % 768 ∧
      t = { s with
        dev := { s.dev with
          dac := s.dev.dac.set s.dev.dacIndex.val v s.dev.dacIndex.isLt
          dacIndex := t.dev.dacIndex
          paletteChanged := true }
        answer := .none }) ∧
    (s.dev.dacDir = .read → exec (.outPortDacData v) s = .next { s with answer := .none })

/-- IN PORT_DAC_DATA: in direction Read the byte at the index, which advances modulo 768; in direction Write an undetermined byte and
no change of the device (R207; log entry 5). -/
def Obligations.DacDataPortRead : Prop :=
  ∀ s : State, Safe s →
    (s.dev.dacDir = .read → ∃ t, exec .inPortDacData s = .next t ∧ t.dev.dacIndex.val = (s.dev.dacIndex.val + 1) % 768 ∧
      t = { s with dev := { s.dev with dacIndex := t.dev.dacIndex }, answer := .byte s.dev.dac[s.dev.dacIndex.val] }) ∧
    (s.dev.dacDir = .write →
      exec .inPortDacData s = .next { s with answer := .byte (Config.openByte s.draws), draws := s.draws + 1 })

/-- 768 consecutive DAC data writes bring the index back to where it was and overwrite every byte of the palette exactly once, the
`k`-th write at `k` places after the start, modulo 768 (R208). -/
def Obligations.DacIndexWraps : Prop :=
  ∀ (d : Device) (vs : Vector Byte 768), d.dacDir = .write →
    (vs.toList.foldl Device.dacDataWrite d).dacIndex = d.dacIndex ∧
    ∀ k : Fin 768, (vs.toList.foldl Device.dacDataWrite d).dac[(d.dacIndex.val + k.val) % 768]'(Nat.mod_lt _ (by decide)) = vs[k.val]

/-- IN PORT_STATUS reports the prior flags (bit 0 if either is set, bit 3 if the vertical one is) and clears both and the AC latch
(R220); it is consuming: a second read with no signal between returns 0 and changes nothing more (R402). -/
def Obligations.StatusPortRead : Prop :=
  ∀ s : State, Safe s →
    ∃ t, exec .inPortStatus s = .next t ∧
      t = { s with
        dev := { s.dev with acLatch := false, hRetrace := false, vRetrace := false }
        answer := .byte (if s.dev.vRetrace then 0x09 else if s.dev.hRetrace then 0x01 else 0x00) } ∧
      exec .inPortStatus t = .next { t with answer := .byte 0x00 }

/-- The retrace signals set their own flag alone; a flag already set stays set (R224, R225). -/
def Obligations.RetraceSignals : Prop :=
  ∀ s : State, Safe s →
    exec .hretrace s = .next { s with dev := { s.dev with hRetrace := true }, answer := .none } ∧
    exec .vretrace s = .next { s with dev := { s.dev with vRetrace := true }, answer := .none }

/-! ### Memory operations -/

/-- The RAM-enable gate (R241): with RAM_EN clear a write changes no plane nor anything else, and a read returns the caller's buffer
untouched, for calls of any length. -/
def Obligations.RamDisabledMemoryOperationsAreNoOps : Prop :=
  ∀ (s : State) (a : Addr) (bytes : List Byte) (length : Nat) (buf : List Byte), Safe s → s.dev.misc.getLsbD 1 = false →
    exec (.memw a bytes) s = .next { s with answer := .none } ∧
    exec (.memr a length buf) s = .next { s with answer := .bytes buf }

/-- The zero-mask gate (R242): with all four mask bits clear WriteMemory changes nothing, and no value of the mask has an effect on
a read. -/
def Obligations.ZeroMaskDropsWritesOnly : Prop :=
  ∀ (s : State) (a : Addr) (bytes : List Byte) (length : Nat) (buf : List Byte), Safe s →
    (s.dev.seq[2].extractLsb' 0 4 = 0 → exec (.memw a bytes) s = .next { s with answer := .none }) ∧
    ∀ m : Byte, ∃ r, exec (.memr a length buf) s = .next { s with answer := r } ∧
      exec (.memr a length buf) { s with dev := { s.dev with seq := s.dev.seq.set 2 m } } =
        .next { s with dev := { s.dev with seq := s.dev.seq.set 2 m }, answer := r }

/-- WriteMemory (R243): it completes, changes the planes alone and keeps them canonical; a byte of a plane that no byte of the call is
stored to (outside the window, in a plane that is not eligible, at another offset, or with a gate closed) keeps its value; where
bytes are stored, the last one remains. -/
def Obligations.WriteMemoryStoresAndFrame : Prop :=
  ∀ (s : State) (a : Addr) (bytes : List Byte), Safe s → s.dev.planes.wf = true →
    ∃ t, exec (.memw a bytes) s = .next t ∧
      t = { s with dev := { s.dev with planes := t.dev.planes }, answer := .none } ∧ t.dev.planes.wf = true ∧
      (∀ k o, o < Config.bankSize →
        (WriteGatesOpen s.dev → ∀ i < bytes.length, ¬ Hits s.dev (a + BitVec.ofNat 32 i) k o) →
        t.dev.planeByte k o = s.dev.planeByte k o) ∧
      (WriteGatesOpen s.dev → ∀ k o i (hi : i < bytes.length), Hits s.dev (a + BitVec.ofNat 32 i) k o →
        (∀ j, i < j → j < bytes.length → ¬ Hits s.dev (a + BitVec.ofNat 32 j) k o) → t.dev.planeByte k o = bytes[i])

/-- Plane fan-out as lane semantics (R250): a one-byte write inside the window stores the byte at the one translated offset of every
plane whose mask bit is set and which chain-4 and odd/even, each where enabled, let through; every other byte of every plane keeps
its content. -/
def Obligations.PlaneFanOut : Prop :=
  ∀ (s : State) (a : Addr) (b : Byte), Safe s → s.dev.planes.wf = true → s.dev.ramEnabled = true → s.dev.inWindow a = true →
    ∃ t, exec (.memw a [b]) s = .next t ∧ ∀ k o, k < 4 → o < Config.bankSize →
      t.dev.planeByte k o =
        if o = s.dev.writeOffset (s.dev.relOffset a) ∧ s.dev.seq[2].getLsbD k = true ∧
            (s.dev.chain4 = true → a.toNat % 4 = k) ∧ (s.dev.oddEven = true → a.toNat % 2 = k % 2)
        then b else s.dev.planeByte k o

/-- ReadMemory (R247): it completes, changes nothing of the device, and returns a buffer of the caller's length, each position of it
the selected plane's byte where the address is inside the window and RAM is enabled, else what it held. -/
def Obligations.ReadMemoryReturnsEachByte : Prop :=
  ∀ (s : State) (a : Addr) (buf : List Byte), Safe s →
    ∃ out, exec (.memr a buf.length buf) s = .next { s with answer := .bytes out } ∧ out.length = buf.length ∧
      ∀ i (h : i < buf.length), out[i]? = some (
        if s.dev.ramEnabled = true ∧ s.dev.inWindow (a + BitVec.ofNat 32 i) = true then
          s.dev.planeByte (s.dev.readPlane (s.dev.relOffset (a + BitVec.ofNat 32 i)))
            (s.dev.readOffset (s.dev.relOffset (a + BitVec.ofNat 32 i)))
        else buf[i])

/-- Write then read at the same address (R248, R249): with RAM enabled and the address inside the window, the byte read is the byte
written when the mask bit of the plane the read selects is set, and that plane's prior content when it is clear, under chain-4,
odd/even and neither. -/
def Obligations.WriteThenReadSameAddress : Prop :=
  ∀ (s : State) (a : Addr) (b x : Byte), Safe s → s.dev.planes.wf = true → s.dev.ramEnabled = true → s.dev.inWindow a = true →
    ∃ t, exec (.memw a [b]) s = .next t ∧
      exec (.memr a 1 [x]) t = .next { t with answer := .bytes [
        if s.dev.mapMask.getLsbD (s.dev.readPlane (s.dev.relOffset a)) = true then b
        else s.dev.planeByte (s.dev.readPlane (s.dev.relOffset a)) (s.dev.readOffset (s.dev.relOffset a))] }

/-! ### Mode resolver and host interface -/

/-- RES (R260 to R266, R330): width and height from the registers as they are, with the register formulas written out. -/
def Obligations.CurrentResolution : Prop :=
  ∀ s : State, Safe s →
    ∃ w h, exec .res s = .next { s with answer := .resolution w h } ∧
      h = (s.dev.crtc[0x12].toNat + (if s.dev.crtc[0x07].getLsbD 1 then 256 else 0) +
            (if s.dev.crtc[0x07].getLsbD 6 then 512 else 0) + 1) / (s.dev.crtc[0x09].toNat % 32 + 1) ∧
      w = if s.dev.gc[6].getLsbD 0 = false then s.dev.crtc[0x01].toNat + 1
          else if s.dev.ac[0x10].getLsbD 6 then (s.dev.crtc[0x01].toNat + 1) * (if s.dev.seq[1].getLsbD 0 then 8 else 9) / 2
          else (s.dev.crtc[0x01].toNat + 1) * (if s.dev.seq[1].getLsbD 0 then 8 else 9)

/-- ISTEXT (R331): it returns whether NOALPHA is 0 and changes nothing; it changes at the register write, before any refresh. -/
def Obligations.IsTextMode : Prop :=
  ∀ s : State, Safe s →
    exec .istext s = .next { s with answer := .bool (decide (s.dev.gc[6].getLsbD 0 = false)) } ∧
    ∀ v : Byte, s.dev.gcIndex = 6 →
      ∃ t, exec (.outPortGcData v) s = .next t ∧ exec .istext t = .next { t with answer := .bool (decide (v.getLsbD 0 = false)) }

/-- TAKEDIRTY (R334) returns the region, empties it and clears the repaint flag; a second call with no refresh between returns the
empty region. -/
def Obligations.TakeDirtyRegion : Prop :=
  ∀ s : State, Safe s →
    ∃ t, exec .takedirty s = .next t ∧
      t = { s with dev := { s.dev with dirty := .empty, repaintPending := false }, answer := .region s.dev.dirty } ∧
      exec .takedirty t = .next { t with answer := .region .empty }

/-- SURF (R336): the whole surface in every state; one element of a grid inside it; a row or a column outside the grid is refused. That
one element of an absent surface completes with the answer `noSurface` is the model's reading of R336 (DEDUCED, log entry 28). -/
def Obligations.ReadSurface : Prop :=
  ∀ s : State, Safe s →
    exec (.surf none) s = .next { s with answer := .surface s.dev.surface } ∧
    ∀ row col : Nat,
      (s.dev.surface = .none → exec (.surf (some (row, col))) s = .next { s with answer := .noSurface }) ∧
      (∀ w h cells, s.dev.surface = .text w h cells → s.dev.surface.wf = true →
        (∀ c, row < h → col < w → (cells[row]?.bind fun r => r[col]?) = some c →
          exec (.surf (some (row, col))) s = .next { s with answer := .cell c }) ∧
        (h ≤ row ∨ w ≤ col → exec (.surf (some (row, col))) s = .refused .outsideGrid)) ∧
      (∀ w h pixels, s.dev.surface = .gfx w h pixels → s.dev.surface.wf = true →
        (∀ p, row < h → col < w → (pixels[row]?.bind fun r => r[col]?) = some p →
          exec (.surf (some (row, col))) s = .next { s with answer := .pixel p }) ∧
        (h ≤ row ∨ w ≤ col → exec (.surf (some (row, col))) s = .refused .outsideGrid))

/-- CURSOR (R338), with the register formulas written out: visibility and size, and the position where the stride is not 0; where it
is 0 the position is undetermined (the opaque `Config.openPosition`, log entry 5) and the operation completes all the same. -/
def Obligations.CursorInfo : Prop :=
  ∀ s : State, Safe s →
    ∃ (visible : Bool) (size : Option Ratio),
      visible = decide (s.dev.crtc[0x0A].toNat % 64 < s.dev.crtc[0x0B].toNat % 32) ∧
      size = (if visible then some ⟨s.dev.crtc[0x0B].toNat % 32 - s.dev.crtc[0x0A].toNat % 64, s.dev.crtc[0x09].toNat % 32 + 1⟩
              else none) ∧
      (s.dev.crtc[0x13].toNat ≠ 0 → ∃ loc, exec .cursor s = .next { s with
          answer := .cursor visible size (loc / (s.dev.crtc[0x13].toNat * 2)) (loc % (s.dev.crtc[0x13].toNat * 2)) } ∧
        loc = s.dev.crtc[0x0E].toNat * 256 + s.dev.crtc[0x0F].toNat + s.dev.crtc[0x0B].toNat / 32 % 4) ∧
      (s.dev.crtc[0x13].toNat = 0 → exec .cursor s = .next { s with
        answer := .cursor visible size (Config.openPosition s.draws).1 (Config.openPosition s.draws).2, draws := s.draws + 1 })

/-- SEED (R396) loads the five register files, marks both edges and touches nothing else. -/
def Obligations.LoadSeed : Prop :=
  ∀ (x : Seed) (s : State), Safe s →
    exec (.seed x) s = .next { s with
      dev := { s.dev with
        misc := x.misc, seq := x.seq, gc := x.gc, crtc := x.crtc, ac := x.ac, modeChanged := true, cursorMoved := true }
      answer := .none }

/-! ### RefreshDisplay -/

/-- REFRESH (R280) completes in every state that accepts operations, and changes nothing but the three edge flags, the surface, the
dirty region, the repaint flag, the marker of R302 and `fatal`. That it completes, with a next state, also where the allocation fails
is the model's reading of R364 (DEDUCED, log entry 13). -/
def Obligations.RefreshCompletesAndFrame : Prop :=
  ∀ s : State, Safe s →
    ∃ t, exec .refresh s = .next t ∧ t.pending = s.pending ∧
      t.dev = { s.dev with
        modeChanged := t.dev.modeChanged, cursorMoved := t.dev.cursorMoved, paletteChanged := t.dev.paletteChanged
        surface := t.dev.surface, dirty := t.dev.dirty, repaintPending := t.dev.repaintPending
        unimplSeen := t.dev.unimplSeen, fatal := t.dev.fatal }

/-- A refresh with no edge and the surface's geometry unchanged reallocates nothing, asks the environment nothing and cannot fail
(R283, R308). The marker of R49 keeps its value but on path `Interleaved` in graphics mode, which sets it (R302, R363; the path choice
and the sticky marker are decisions D21 and D25, log entry 21; that a pass over no pixels sets it too is DEDUCED, log entry 23). -/
def Obligations.RefreshWithoutReallocation : Prop :=
  ∀ s : State, Safe s → s.dev.modeChanged = false → s.dev.surface.geometry = some s.dev.geometry →
    ∃ t, exec .refresh s = .next t ∧ t.draws = s.draws ∧ t.answer = .none ∧ t.dev.fatal = false ∧ t.dev.modeChanged = false ∧
      t.dev.surface.geometry = some s.dev.geometry ∧ t.dev.cursorMoved = false ∧ t.dev.paletteChanged = false ∧
      t.dev.repaintPending = (s.dev.repaintPending || decide (t.dev.dirty ≠ .empty)) ∧
      t.dev.unimplSeen = (s.dev.unimplSeen || (s.dev.noAlpha && !s.dev.shift256 && s.dev.shiftReg))

/-- A refresh with an edge, no surface or another geometry reallocates (R283, R284). The environment's answer is the opaque
`Config.allocOk` (log entry 6).

If it can allocate: the surface has the geometry the registers resolve to now, the three edges are consumed, and the old content and the
old dirty region are gone (R284, decision D26, log entry 22): the dirty region is ordered and lies in a region `y` exactly when `y`
holds every row and column whose element after the pass is not the zero element, so it is the smallest around them and empty where
there is none; on path `Interleaved` every pixel is 0. The repaint flag is never cleared (DEDUCED, log entry 22), nor is the marker of
R49, which path `Interleaved` sets (R302, R363; log entries 21 and 23).

If it cannot: `Fatal(SurfaceAlloc)` leaves the state R364 gives. That this is a next state, with an answer of its own, is the model's
reading (DEDUCED, log entry 13). -/
def Obligations.RefreshReallocates : Prop :=
  ∀ s : State, Safe s → s.dev.modeChanged = true ∨ s.dev.surface.geometry ≠ some s.dev.geometry →
    ∃ t, exec .refresh s = .next t ∧ t.draws = s.draws + 1 ∧
      if Config.allocOk s.draws s.dev.geometry = true then
        t.answer = .none ∧ t.dev.fatal = false ∧ t.dev.modeChanged = false ∧ t.dev.surface.geometry = some s.dev.geometry ∧
          t.dev.cursorMoved = false ∧ t.dev.paletteChanged = false ∧
          t.dev.repaintPending = (s.dev.repaintPending || decide (t.dev.dirty ≠ .empty)) ∧
          t.dev.unimplSeen = (s.dev.unimplSeen || (s.dev.noAlpha && !s.dev.shift256 && s.dev.shiftReg)) ∧
          t.dev.surface.wf = true ∧ Ordered t.dev.dirty ∧
          (∀ y : DirtyRegion, RegionLe t.dev.dirty y ↔
            ∀ i j, i < s.dev.height → j < s.dev.width →
              t.dev.surface.element i j ≠ some (if s.dev.noAlpha then .pixel 0 else .cell ⟨0, 0⟩) → y.contains i j = true) ∧
          (s.dev.noAlpha = true → s.dev.shift256 = false → s.dev.shiftReg = true →
            ∀ i j, i < s.dev.height → j < s.dev.width → t.dev.surface.element i j = some (.pixel 0))
      else
        t.answer = .fatalSurfaceAlloc ∧
          t.dev = { s.dev with surface := .none, fatal := true, modeChanged := false, dirty := .empty }

/-- After a refresh in text mode that did not fail, every cell of the surface shows plane 0 and plane 1 at the position R296 gives,
by the row address of R288 and the unit multiplication of R290: one unit per cell and these addresses are the spec's decision D22 (log
entry 21), the wrap at the bank size D8 (log entry 8). -/
def Obligations.RefreshRendersText : Prop :=
  ∀ s t : State, Inv s → exec .refresh s = .next t → t.dev.fatal = false → s.dev.noAlpha = false →
    ∀ i j, i < s.dev.height → j < s.dev.width →
      t.dev.surface.element i j = some (.cell
        ⟨s.dev.planeByte 0 ((s.dev.startAddr + i * s.dev.stride + j) * s.dev.unitSize % 65536),
         s.dev.planeByte 1 ((s.dev.startAddr + i * s.dev.stride + j) * s.dev.unitSize % 65536)⟩)

/-- After a refresh on path Shift256_8 every pixel is the byte R300 gives, at the row address of R288 and with the unit multiplication of
R290. These addresses are the spec's decision D22 (log entry 21), the wrap at the bank size D8 (log entry 8), and that SHIFT256 alone
chooses the path, whatever SHIFTREG is, D21 (log entry 21). -/
def Obligations.RefreshRendersShift256x8 : Prop :=
  ∀ s t : State, Inv s → exec .refresh s = .next t → t.dev.fatal = false → s.dev.noAlpha = true →
    s.dev.shift256 = true → s.dev.color8 = true →
    ∀ i j, i < s.dev.height → j < s.dev.width →
      t.dev.surface.element i j = some (.pixel
        (s.dev.planeByte (j % 4) ((s.dev.startAddr + i * s.dev.stride + j / 4) * s.dev.unitSize % 65536)))

/-- After a refresh on path Shift256_4 every pixel is the nibble R301 gives: bytes in order plane 0, 1, 2, 3, the even pixel the high
nibble (the spec's default of SHIFT256_4_MAP, D23, log entry 7; addresses and path choice D22 and D21, log entry 21; the wrap D8, log
entry 8). -/
def Obligations.RefreshRendersShift256x4 : Prop :=
  ∀ s t : State, Inv s → exec .refresh s = .next t → t.dev.fatal = false → s.dev.noAlpha = true →
    s.dev.shift256 = true → s.dev.color8 = false →
    ∀ i j, i < s.dev.height → j < s.dev.width →
      ∃ p b, t.dev.surface.element i j = some (.pixel p) ∧
        b = s.dev.planeByte (j / 2 % 4) ((s.dev.startAddr + i * s.dev.stride + j / 8) * s.dev.unitSize % 65536) ∧
        p.toNat = if j % 2 = 0 then b.toNat / 16 else b.toNat % 16

/-- After a refresh on path Planar8 bit `k` of every pixel is the upper and bit `k + 4` the lower bit of the pair R303 selects in
plane `k` (the order of the bits is decision D24, addresses and path choice D22 and D21, log entry 21; the wrap D8, log entry 8). -/
def Obligations.RefreshRendersPlanar8 : Prop :=
  ∀ s t : State, Inv s → exec .refresh s = .next t → t.dev.fatal = false → s.dev.noAlpha = true →
    s.dev.shift256 = false → s.dev.shiftReg = false → s.dev.color8 = true →
    ∀ i j, i < s.dev.height → j < s.dev.width →
      ∃ p : Byte, t.dev.surface.element i j = some (.pixel p) ∧ ∀ k < 4, ∀ b : Byte,
        b = s.dev.planeByte k ((s.dev.startAddr + i * s.dev.stride + j / 4) * s.dev.unitSize % 65536) →
        p.getLsbD k = b.getLsbD (7 - 2 * (j % 4)) ∧ p.getLsbD (k + 4) = b.getLsbD (6 - 2 * (j % 4))

/-- After a refresh on path Planar4 bit `k` of every pixel is the bit R304 selects in plane `k`, and the high nibble is 0
(the order of the bits is decision D24, addresses and path choice D22 and D21, log entry 21; the wrap D8, log entry 8). -/
def Obligations.RefreshRendersPlanar4 : Prop :=
  ∀ s t : State, Inv s → exec .refresh s = .next t → t.dev.fatal = false → s.dev.noAlpha = true →
    s.dev.shift256 = false → s.dev.shiftReg = false → s.dev.color8 = false →
    ∀ i j, i < s.dev.height → j < s.dev.width →
      ∃ p : Byte, t.dev.surface.element i j = some (.pixel p) ∧ p.toNat < 16 ∧ ∀ k < 4,
        p.getLsbD k =
          (s.dev.planeByte k ((s.dev.startAddr + i * s.dev.stride + j / 8) * s.dev.unitSize % 65536)).getLsbD (7 - j % 8)

/-- On the unimplemented path (R302) a refresh that reallocates nothing leaves every pixel and the dirty region as they were and sets
the marker; it never fails. That this path is chosen for either value of COLOR8 and that the marker is sticky are decisions D21 and D25
(log entry 21); that a pass over a surface of no rows or columns sets the marker too is the model's reading (DEDUCED, log entry 23). -/
def Obligations.InterleavedRefreshKeepsPixels : Prop :=
  ∀ s : State, Safe s → s.dev.modeChanged = false → s.dev.surface.geometry = some s.dev.geometry → s.dev.noAlpha = true →
    s.dev.shift256 = false → s.dev.shiftReg = true →
    ∃ t, exec .refresh s = .next t ∧ t.dev.surface = s.dev.surface ∧ t.dev.dirty = s.dev.dirty ∧ t.dev.unimplSeen = true ∧
      t.dev.fatal = false

/-- The dirty-region law (R309), for a refresh that reallocates nothing: the region after the pass lies in a region `y` exactly when
the region before it does and `y` holds every row and column whose element the pass changed. So it contains both, nothing shrinks it,
and it is the smallest that does. -/
def Obligations.RefreshDirtyRegionIsMinimal : Prop :=
  ∀ s t : State, Inv s → s.dev.modeChanged = false → s.dev.surface.geometry = some s.dev.geometry → exec .refresh s = .next t →
    ∀ y : DirtyRegion,
      RegionLe t.dev.dirty y ↔
        RegionLe s.dev.dirty y ∧
          ∀ i j, i < s.dev.height → j < s.dev.width → t.dev.surface.element i j ≠ s.dev.surface.element i j → y.contains i j = true

/-- A refresh with nothing changed writes nothing to the surface and leaves the dirty region as it was (R280): the refresh after a
refresh that did not fail leaves the whole state as it is. -/
def Obligations.SecondRefreshChangesNothing : Prop :=
  ∀ s t : State, exec .refresh s = .next t → t.dev.fatal = false → exec .refresh t = .next t
end

