-- ==== Sys2Proof/Laws/Codec.lean ====
section
/-! SUPPORT. The decoder's parts read back what the encoder's parts write. -/

namespace Sys2Proof.Laws

open Sys2Proof

@[simp] theorem decodeBytes_end (rest : List Byte) : decodeBytes (0 :: rest) = .ok ([], rest) := by
  cases rest <;> simp [decodeBytes]

theorem decodeBytes_encodeBytes (bs rest : List Byte) : decodeBytes (encodeBytes bs ++ rest) = .ok (bs, rest) := by
  induction bs with
  | nil => exact decodeBytes_end rest
  | cons b bs ih => simp [encodeBytes, decodeBytes, ih]

theorem natOfDigits_natDigits (fuel n : Nat) (h : n ≤ fuel) : natOfDigits (natDigits fuel n) = n := by
  induction fuel generalizing n with
  | zero => simp [natDigits, natOfDigits, Nat.le_zero.1 h]
  | succ fuel ih =>
    simp only [natDigits]
    split_ifs with h0
    · simp [natOfDigits, h0]
    · simp only [natOfDigits, BitVec.toNat_ofNat]
      rw [ih (n / 256) (by omega)]
      omega

theorem addrOfBytes_encodeAddr (a : Addr) :
    addrOfBytes (a.extractLsb' 0 8) (a.extractLsb' 8 8) (a.extractLsb' 16 8) (a.extractLsb' 24 8) = a := by
  unfold addrOfBytes
  apply BitVec.eq_of_getLsbD_eq
  intro i hi
  simp only [BitVec.getLsbD_append, BitVec.getLsbD_extractLsb']
  split_ifs <;> (rw [decide_eq_true (by omega), Bool.true_and]; congr 1; omega)

theorem takeBytes_toList {n : Nat} (v : Vector Byte n) (rest : List Byte) : takeBytes n (v.toList ++ rest) = .ok (v, rest) := by
  induction n with
  | zero =>
    have hv : v = #v[] := by ext i hi; omega
    subst hv
    rfl
  | succ n ih =>
    obtain ⟨b, w, rfl⟩ : ∃ (b : Byte) (w : Vector Byte n), v = (#v[b] ++ w).cast (Nat.add_comm 1 n) := by
      refine ⟨v[0], (v.extract 1 (n + 1)).cast (by omega), ?_⟩
      ext i hi
      rcases i with _ | i
      · simp
      · simp [Nat.add_comm]
    have hl : ((#v[b] ++ w).cast (Nat.add_comm 1 n)).toList ++ rest = b :: (w.toList ++ rest) := by
      simp [Vector.toList]
    rw [hl]
    simp only [takeBytes, ih w]

theorem decodeSeed_encodeSeed (s : Seed) (rest : List Byte) : decodeSeed (encodeSeed s ++ rest) = .ok (s, rest) := by
  simp only [encodeSeed, decodeSeed, List.cons_append, List.append_assoc, takeBytes_toList]

theorem decodeElement_none (rest : List Byte) : decodeElement (0 :: rest) = .ok (none, rest) := by
  simp [decodeElement]

theorem decodeElement_some (row col : Nat) (rest : List Byte) :
    decodeElement (1 :: (encodeNat row ++ encodeNat col) ++ rest) = .ok (some (row, col), rest) := by
  simp [decodeElement, encodeNat, decodeBytes_encodeBytes, natOfDigits_natDigits]

/-- A port's name is read back from its number (R121). -/
theorem portNamed_portNumber (n : PortName) : portNamed (Config.portNumber n) = some n := by
  cases n <;> rfl

/-- The two bytes of a port number give the number back. -/
theorem portBytes_append (n : PortName) :
    (Config.portNumber n).extractLsb' 8 8 ++ (Config.portNumber n).extractLsb' 0 8 = Config.portNumber n := by
  cases n <;> rfl

theorem decode_encodePw (n : PortName) (v : Byte) (rest : List Byte) :
    decode (encodePw n v ++ rest) = .ok (portWrite n v, rest) := by
  simp [encodePw, portBytes, decode, formOf, decodeOperands, onPort, portBytes_append, portNamed_portNumber]

theorem decode_encodePr (n : PortName) (rest : List Byte) : decode (encodePr n ++ rest) = .ok (portRead n, rest) := by
  simp [encodePr, portBytes, decode, formOf, decodeOperands, onPort, portBytes_append, portNamed_portNumber]

theorem decode_encodeRowPw (n : PortName) (i v : Byte) (rest : List Byte) (x : Instr) (h : rowWrite n i.toNat v = some x) :
    decode (encodeRowPw n i v ++ rest) = .ok (x, rest) := by
  simp [encodeRowPw, portBytes, decode, formOf, decodeOperands, onPort, portBytes_append, portNamed_portNumber, h]

theorem decode_encodeRowPr (n : PortName) (i : Byte) (rest : List Byte) (x : Instr) (h : rowRead n i.toNat = some x) :
    decode (encodeRowPr n i ++ rest) = .ok (x, rest) := by
  simp [encodeRowPr, portBytes, decode, formOf, decodeOperands, onPort, portBytes_append, portNamed_portNumber, h]

/-- An operation without a port: its operands are read behind the form byte. -/
theorem decode_encodeCall (t : Byte) (f : Form) (operands rest : List Byte) (h : formOf t = some f) :
    decode (encodeCall t operands ++ rest) = decodeOperands 0 (operands ++ rest) f := by
  simp [encodeCall, decode, h]

end Sys2Proof.Laws
end

