-- ==== Sys2Proof/Laws/Memory.lean ====
section
/-! SUPPORT. The planes' memory: a byte read after a write, and the canonical form (log entry 10). -/

namespace Sys2Proof.Laws

open Sys2Proof Sys2Proof.Machine

@[simp] theorem memory_read_nil (q : Nat) : Memory.read [] q = 0 := rfl

theorem memory_wfFrom_cons (lo p : Nat) (b : Byte) (m : Memory) :
    Memory.wfFrom lo ((p, b) :: m) = true ↔
      lo ≤ p ∧ p < Config.numPlanes * Config.bankSize ∧ b ≠ 0 ∧ Memory.wfFrom (p + 1) m = true := by
  simp [Memory.wfFrom, unlistedByte, and_assoc]

theorem memory_wfFrom_mono {lo lo' : Nat} (h : lo ≤ lo') : ∀ m : Memory, Memory.wfFrom lo' m = true → Memory.wfFrom lo m = true
  | [], _ => rfl
  | (p, b) :: m, hm => by
    rw [memory_wfFrom_cons] at hm ⊢
    exact ⟨le_trans h hm.1, hm.2⟩

/-- Below its first position a canonical memory lists nothing. -/
theorem memory_read_below : ∀ (m : Memory) (lo q : Nat), Memory.wfFrom lo m = true → q < lo → Memory.read m q = 0
  | [], _, _, _, _ => rfl
  | (p, b) :: m, lo, q, hm, hq => by
    rw [memory_wfFrom_cons] at hm
    have hne : p ≠ q := by omega
    simp only [Memory.read, hne, if_false]
    exact memory_read_below m (p + 1) q hm.2.2.2 (by omega)

/-- A read after a write to another position gives what it gave before. -/
theorem memory_read_write_other (q r : Nat) (v : Byte) (h : r ≠ q) : ∀ m : Memory, (Memory.write m q v).read r = Memory.read m r
  | [] => by
    simp only [Memory.write]
    split <;> simp [Memory.read, Ne.symm h]
  | (p, b) :: m => by
    have ih := memory_read_write_other q r v h m
    have hq : q ≠ r := Ne.symm h
    simp only [Memory.write]
    split_ifs with h1 h2 h3 h4
    · rfl
    · simp [Memory.read, hq]
    · subst h3
      simp [Memory.read, hq]
    · subst h3
      simp [Memory.read, hq]
    · simp [Memory.read, ih]

/-- A read after a write to the same position gives the byte written. -/
theorem memory_read_write_same (q : Nat) (v : Byte) :
    ∀ (m : Memory) (lo : Nat), Memory.wfFrom lo m = true → (Memory.write m q v).read q = v
  | [], _, _ => by
    simp only [Memory.write]
    split <;> simp_all [Memory.read, unlistedByte]
  | (p, b) :: m, lo, hm => by
    rw [memory_wfFrom_cons] at hm
    have ih := memory_read_write_same q v m (p + 1) hm.2.2.2
    simp only [Memory.write]
    split_ifs with h1 h2 h3 h4
    · have hp : p ≠ q := by omega
      simp only [Memory.read, hp, if_false, h2, unlistedByte]
      exact memory_read_below m (p + 1) q hm.2.2.2 (by omega)
    · simp [Memory.read]
    · rw [h4, unlistedByte]
      exact memory_read_below m (p + 1) q hm.2.2.2 (by omega)
    · simp [Memory.read]
    · have hp : p ≠ q := fun e => h3 e.symm
      simpa [Memory.read, hp] using ih

/-- A write inside the four banks keeps the canonical form. -/
theorem memory_write_wfFrom (q : Nat) (v : Byte) (hq : q < Config.numPlanes * Config.bankSize) :
    ∀ (m : Memory) (lo : Nat), lo ≤ q → Memory.wfFrom lo m = true → Memory.wfFrom lo (Memory.write m q v) = true
  | [], lo, hlo, _ => by
    simp only [Memory.write]
    split_ifs with hv
    · rfl
    · exact (memory_wfFrom_cons ..).2 ⟨hlo, hq, hv, rfl⟩
  | (p, b) :: m, lo, hlo, hm => by
    have hm' := (memory_wfFrom_cons ..).1 hm
    simp only [Memory.write]
    split_ifs with h1 h2 h3 h4
    · exact hm
    · exact (memory_wfFrom_cons ..).2 ⟨hlo, hq, h2, (memory_wfFrom_cons ..).2 ⟨by omega, hm'.2⟩⟩
    · exact memory_wfFrom_mono (by omega) m hm'.2.2.2
    · exact (memory_wfFrom_cons ..).2 ⟨hlo, hq, h4, by subst h3; exact hm'.2.2.2⟩
    · exact (memory_wfFrom_cons ..).2 ⟨hm'.1, hm'.2.1, hm'.2.2.1, memory_write_wfFrom q v hq m (p + 1) (by omega) hm'.2.2.2⟩

/-- Every memory operation keeps the canonical form. -/
theorem memory_write_wf (m : Memory) (q : Nat) (v : Byte) (hq : q < Config.numPlanes * Config.bankSize) (hm : m.wf = true) :
    (Memory.write m q v).wf = true :=
  memory_write_wfFrom q v hq m 0 (Nat.zero_le q) hm

theorem reset_planes_wf : State.reset.dev.planes.wf = true := rfl

/-- A flat position names one byte of one plane (R94). -/
theorem flatPos_inj {k k' o o' : Nat} (ho : o < Config.bankSize) (ho' : o' < Config.bankSize) :
    flatPos k o = flatPos k' o' ↔ k = k' ∧ o = o' := by
  simp only [flatPos, Config.bankSize] at *
  omega

theorem flatPos_lt {k o : Nat} (hk : k < Config.numPlanes) (ho : o < Config.bankSize) :
    flatPos k o < Config.numPlanes * Config.bankSize := by
  simp only [flatPos, Config.bankSize, Config.numPlanes] at *
  omega

/-- A byte of a plane after one plane byte was written (R94). -/
theorem planeByte_setPlaneByte (d : Device) (k o k' o' : Nat) (v : Byte) (hd : d.planes.wf = true) (ho : o < Config.bankSize)
    (ho' : o' < Config.bankSize) :
    (d.setPlaneByte k o v).planeByte k' o' = if k' = k ∧ o' = o then v else d.planeByte k' o' := by
  simp only [Device.planeByte, Device.setPlaneByte, Device.setPlanes_planes]
  split_ifs with h
  · obtain ⟨rfl, rfl⟩ := h
    exact memory_read_write_same _ v d.planes 0 hd
  · exact memory_read_write_other _ _ v (fun e => h ((flatPos_inj ho' ho).1 e)) d.planes

end Sys2Proof.Laws
end

