-- ==== Sys2Proof/Laws/State.lean ====
section
/-! SUPPORT. The small lemmas of the state's updates. Every field of every setter of Machine/Ops.lean has its lemma there, made by
`simps` and tagged `simp` (`Device.setSeq_seq`, `Device.setSeq_gc`, …), and so have the compound updates `clearStatus`, `raiseFatal`,
`setPlaneByte`, `reallocate`, `endRefresh` and `loadSeed`. Here: the updates of the indexed groups as record updates, and what the
frame of a meaning can answer. -/

namespace Sys2Proof.Laws

open Sys2Proof Sys2Proof.Machine

/-! ### The frame of a meaning: everything it can answer -/

theorem ifAlive_next {s t : State} {k : Host.Outcome State Fault Refusal} :
    ifAlive s k = .next t ↔ s.dev.fatal = false ∧ k = .next t := by
  unfold ifAlive
  cases s.dev.fatal <;> simp

@[simp] theorem ifAlive_of_fatal {s : State} {k : Host.Outcome State Fault Refusal} (h : s.dev.fatal = true) :
    ifAlive s k = .refused .sessionEnded := by
  simp [ifAlive, h]

@[simp] theorem ifAlive_of_alive {s : State} {k : Host.Outcome State Fault Refusal} (h : s.dev.fatal = false) :
    ifAlive s k = k := by
  simp [ifAlive, h]

theorem complete_next {s t : State} {d : Device} {a : Answer} :
    complete s d a = .next t ↔ s.dev.fatal = false ∧ t = { s with dev := d, answer := a } := by
  rw [complete, ifAlive_next, Host.Outcome.next.injEq, eq_comm (a := t)]

theorem completeOpenByte_next {s t : State} :
    completeOpenByte s = .next t ↔
      s.dev.fatal = false ∧ t = { s with answer := .byte (Config.openByte s.draws), draws := s.draws + 1 } := by
  rw [completeOpenByte, ifAlive_next, Host.Outcome.next.injEq, eq_comm (a := t)]

/-! ### The index registers and the register arrays -/

theorem selectIndex_of_lt {n : Nat} {prior : Fin n} {v : Byte} (h : v.toNat < n) : selectIndex prior v = ⟨v.toNat, h⟩ := by
  simp [selectIndex, h]

theorem selectIndex_of_ge {n : Nat} {prior : Fin n} {v : Byte} (h : n ≤ v.toNat) : selectIndex prior v = prior := by
  simp [selectIndex, Nat.not_lt.2 h]

@[simp] theorem putReg_get_same {n : Nat} (r : Vector Byte n) (i : Fin n) (v : Byte) : (putReg r i v)[i] = v := by
  simp [putReg]

theorem putReg_get {n : Nat} (r : Vector Byte n) (i j : Fin n) (v : Byte) : (putReg r i v)[j] = if j = i then v else r[j] := by
  simp only [putReg, Fin.getElem_fin, Vector.getElem_set, Fin.ext_iff, eq_comm (a := j.val)]

theorem seqDataWrite_eq (d : Device) (v : Byte) : d.seqDataWrite v = { d with seq := putReg d.seq d.seqIndex v } := rfl

theorem gcDataWrite_eq (d : Device) (v : Byte) :
    d.gcDataWrite v = { d with gc := putReg d.gc d.gcIndex v, modeChanged := d.modeChanged || gcMarksMode d.gcIndex } := rfl

theorem crtcDataWrite_eq (d : Device) (v : Byte) :
    d.crtcDataWrite v =
      { d with
        crtc := putReg d.crtc d.crtcIndex v
        modeChanged := d.modeChanged || crtcMarksMode d.crtcIndex
        cursorMoved := d.cursorMoved || crtcMarksCursor d.crtcIndex } := rfl

theorem acWrite_eq (d : Device) (v : Byte) :
    d.acWrite v =
      { d with
        acIndex := if d.acLatch then d.acIndex else selectIndex d.acIndex v
        ac := if d.acLatch then putReg d.ac d.acIndex v else d.ac
        acLatch := !d.acLatch } := by
  unfold Device.acWrite
  cases h : d.acLatch <;> simp [Device.setAcLatch, Device.setAc, Device.setAcIndex]

/-! ### A register's own row is the port's access (log entry 11) -/

@[simp] theorem seqRowWrite_eq (n : Fin Config.seqCount) (v : Byte) (d : Device) : d.seqRowWrite n v = d.seqDataWrite v := by
  unfold Device.seqRowWrite
  split_ifs with h
  · rw [← h, Device.seqDataWrite]
  · rfl

@[simp] theorem gcRowWrite_eq (n : Fin Config.gcCount) (v : Byte) (d : Device) : d.gcRowWrite n v = d.gcDataWrite v := by
  unfold Device.gcRowWrite
  split_ifs with h
  · rw [← h, Device.gcDataWrite]
  · rfl

@[simp] theorem crtcRowWrite_eq (n : Fin Config.crtcCount) (v : Byte) (d : Device) : d.crtcRowWrite n v = d.crtcDataWrite v := by
  unfold Device.crtcRowWrite
  split_ifs with h
  · rw [← h, Device.crtcDataWrite]
  · rfl

@[simp] theorem acRowWrite_eq (n : Fin Config.acCount) (v : Byte) (d : Device) : d.acRowWrite n v = d.acWrite v := by
  unfold Device.acRowWrite
  split_ifs with h
  · simp [Device.acWrite, h.1, h.2]
  · rfl

@[simp] theorem readRow_eq {k : Nat} (r : Vector Byte k) (index n : Fin k) : readRow r index n = r[index] := by
  unfold readRow
  split_ifs with h
  · rw [h]
  · rfl

/-! ### The DAC -/

theorem dacDataWrite_of_write {d : Device} (v : Byte) (h : d.dacDir = .write) :
    d.dacDataWrite v = { d with dac := putReg d.dac d.dacIndex v, dacIndex := dacNext d.dacIndex, paletteChanged := true } := by
  simp [Device.dacDataWrite, h, Device.setDac, Device.setDacIndex, Device.setPaletteChanged]

theorem dacDataWrite_of_read {d : Device} (v : Byte) (h : d.dacDir = .read) : d.dacDataWrite v = d := by
  simp [Device.dacDataWrite, h]

/-! ### The parameter of U6 -/

@[simp] theorem breaksPremise_eq_false (raw : Nat) : breaksPremise raw = false := rfl

end Sys2Proof.Laws
end

