-- ==== Sys2Proof/Laws/Planes.lean ====
section
/-! SUPPORT. What WriteMemory and ReadMemory do to and read from the planes (R243, R247): which bytes a call stores to, that the last
byte stored to a place is what remains there, that nothing else changes. -/

namespace Sys2Proof.Laws

open Sys2Proof Sys2Proof.Machine

theorem writeOffset_lt (d : Device) (rel : Nat) : d.writeOffset rel < Config.bankSize := Nat.mod_lt _ (by decide)

theorem readOffset_eq_writeOffset (d : Device) (rel : Nat) : d.readOffset rel = d.writeOffset rel := rfl

/-- The linear address of the byte after position `j` (R89: addresses wrap). -/
theorem addr_succ (a : Addr) (j : Nat) : a + 1 + BitVec.ofNat 32 j = a + BitVec.ofNat 32 (j + 1) := by
  rw [BitVec.ofNat_add, add_comm (BitVec.ofNat 32 j), ← add_assoc]
  rfl

theorem readPlane_lt (d : Device) (rel : Nat) : d.readPlane rel < Config.numPlanes := by
  unfold Device.readPlane Device.readMapSel
  have := (d.gc[4].extractLsb' 0 2).isLt
  simp only [Config.numPlanes]
  split_ifs <;> omega

/-- A setter of the planes leaves every register-only function as it is. -/
theorem setPlanes_writeByte_regs (d : Device) (m : Memory) (a : Addr) (k : Nat) :
    (d.setPlanes m).inWindow a = d.inWindow a ∧ (d.setPlanes m).eligible a k = d.eligible a k ∧
      (d.setPlanes m).writeOffset ((d.setPlanes m).relOffset a) = d.writeOffset (d.relOffset a) :=
  ⟨rfl, rfl, rfl⟩

/-- The fold over lanes: only the planes change, they stay canonical, and each active lane holds the byte at the one offset. -/
theorem lanes_spec (P : Nat → Bool) (o : Nat) (b : Byte) (ho : o < Config.bankSize) :
    ∀ (ks : List Nat) (d : Device), (∀ k ∈ ks, k < Config.numPlanes) → d.planes.wf = true →
      ∃ m : Memory, ks.foldl (fun e k => if P k then e.setPlaneByte k o b else e) d = d.setPlanes m ∧ m.wf = true ∧
        ∀ k' o', o' < Config.bankSize →
          Memory.read m (flatPos k' o') = if k' ∈ ks ∧ P k' = true ∧ o' = o then b else d.planeByte k' o'
  | [], d, _, hd => ⟨d.planes, by simp [Device.setPlanes], hd, by simp [Device.planeByte]⟩
  | k :: ks, d, hks, hd => by
    have hk : k < Config.numPlanes := hks k (by simp)
    by_cases hP : P k = true
    · have hd' : (d.setPlaneByte k o b).planes.wf = true := by
        rw [Device.setPlaneByte_planes]
        exact memory_write_wf _ _ _ (flatPos_lt hk ho) hd
      obtain ⟨m, h1, h2, h3⟩ := lanes_spec P o b ho ks (d.setPlaneByte k o b) (fun x hx => hks x (by simp [hx])) hd'
      refine ⟨m, by simpa [hP, Device.setPlaneByte, Device.setPlanes] using h1, h2, fun k' o' ho' => ?_⟩
      rw [h3 k' o' ho', planeByte_setPlaneByte d k o k' o' b hd ho ho']
      by_cases hkk : k' = k
      · subst hkk
        by_cases hoo : o' = o <;> simp [hP, hoo]
      · simp [hkk]
    · obtain ⟨m, h1, h2, h3⟩ := lanes_spec P o b ho ks d (fun x hx => hks x (by simp [hx])) hd
      refine ⟨m, by simpa [hP] using h1, h2, fun k' o' ho' => ?_⟩
      rw [h3 k' o' ho']
      by_cases hkk : k' = k
      · subst hkk; simp [hP]
      · simp [hkk]

theorem mem_lanes (k : Nat) : k ∈ [0, 1, 2, 3] ↔ k < Config.numPlanes := by
  simp only [List.mem_cons, List.not_mem_nil, or_false, Config.numPlanes]
  omega

open Classical in
/-- One byte of WriteMemory: everything it can do. -/
theorem writeByte_spec (d : Device) (a : Addr) (b : Byte) (hd : d.planes.wf = true) :
    ∃ m : Memory, d.writeByte a b = d.setPlanes m ∧ m.wf = true ∧
      ∀ k o, o < Config.bankSize → Memory.read m (flatPos k o) = if Hits d a k o then b else d.planeByte k o := by
  by_cases hw : d.inWindow a = true
  · obtain ⟨m, h1, h2, h3⟩ := lanes_spec (d.eligible a) (d.writeOffset (d.relOffset a)) b (writeOffset_lt d _) [0, 1, 2, 3] d
      (fun k hk => (mem_lanes k).1 hk) hd
    refine ⟨m, by rw [Device.writeByte, if_pos hw]; exact h1, h2, fun k o ho => ?_⟩
    simp only [h3 k o ho, mem_lanes, Hits, hw, true_and]
  · exact ⟨d.planes, by simp [Device.writeByte, hw, Device.setPlanes], hd, fun k o _ => by simp [Hits, hw, Device.planeByte]⟩

/-- The bytes of WriteMemory: only the planes change and they stay canonical. -/
theorem writeBytes_planes (bs : List Byte) : ∀ (d : Device) (a : Addr), d.planes.wf = true →
    ∃ m : Memory, d.writeBytes a bs = d.setPlanes m ∧ m.wf = true := by
  induction bs with
  | nil => exact fun d a hd => ⟨d.planes, rfl, hd⟩
  | cons b bs ih =>
    intro d a hd
    obtain ⟨m, h1, h2, _⟩ := writeByte_spec d a b hd
    obtain ⟨m', h1', h2'⟩ := ih (d.setPlanes m) (a + 1) h2
    exact ⟨m', by rw [Device.writeBytes, h1, h1']; rfl, h2'⟩

theorem writeMemory_planes (d : Device) (a : Addr) (bs : List Byte) (hd : d.planes.wf = true) :
    ∃ m : Memory, d.writeMemory a bs = d.setPlanes m ∧ m.wf = true := by
  unfold Device.writeMemory
  split_ifs
  · exact ⟨d.planes, rfl, hd⟩
  · exact ⟨d.planes, rfl, hd⟩
  · exact writeBytes_planes bs d a hd

/-- In every state, canonical or not, a call of WriteMemory changes the planes alone (R110). -/
theorem writeMemory_setPlanes (d : Device) (a : Addr) (bs : List Byte) : ∃ m : Memory, d.writeMemory a bs = d.setPlanes m := by
  have lanes : ∀ (P : Nat → Bool) (o : Nat) (b : Byte) (ks : List Nat) (d : Device),
      ∃ m : Memory, ks.foldl (fun e k => if P k then e.setPlaneByte k o b else e) d = d.setPlanes m := by
    intro P o b ks
    induction ks with
    | nil => exact fun d => ⟨d.planes, rfl⟩
    | cons k ks ih =>
      intro d
      obtain ⟨m, h⟩ := ih (if P k then d.setPlaneByte k o b else d)
      refine ⟨m, ?_⟩
      rw [List.foldl_cons, h]
      split_ifs <;> rfl
  have bytes : ∀ (bs : List Byte) (d : Device) (a : Addr), ∃ m : Memory, d.writeBytes a bs = d.setPlanes m := by
    intro bs
    induction bs with
    | nil => exact fun d _ => ⟨d.planes, rfl⟩
    | cons b bs ih =>
      intro d a
      obtain ⟨m, h⟩ : ∃ m : Memory, d.writeByte a b = d.setPlanes m := by
        unfold Device.writeByte
        split_ifs
        · exact lanes _ _ _ _ d
        · exact ⟨d.planes, rfl⟩
      obtain ⟨m', h'⟩ := ih (d.writeByte a b) (a + 1)
      exact ⟨m', by rw [Device.writeBytes, h', h]; rfl⟩
  unfold Device.writeMemory
  split_ifs
  · exact ⟨d.planes, rfl⟩
  · exact ⟨d.planes, rfl⟩
  · exact bytes bs d a

theorem hits_setPlanes (d : Device) (m : Memory) (a : Addr) (k o : Nat) : Hits (d.setPlanes m) a k o ↔ Hits d a k o := Iff.rfl

/-- A byte that no byte of the call is stored to keeps its value. -/
theorem writeBytes_frame (bs : List Byte) : ∀ (d : Device) (a : Addr) (k o : Nat), d.planes.wf = true → o < Config.bankSize →
    (∀ i < bs.length, ¬ Hits d (a + BitVec.ofNat 32 i) k o) → (d.writeBytes a bs).planeByte k o = d.planeByte k o := by
  classical
  induction bs with
  | nil => exact fun _ _ _ _ _ _ _ => rfl
  | cons b bs ih =>
    intro d a k o hd ho hno
    obtain ⟨m, h1, h2, h3⟩ := writeByte_spec d a b hd
    have h0 : ¬ Hits d a k o := by simpa using hno 0 (by simp)
    rw [Device.writeBytes, h1, ih (d.setPlanes m) (a + 1) k o h2 ho, Device.planeByte, Device.setPlanes_planes, h3 k o ho, if_neg h0]
    intro i hi
    rw [hits_setPlanes, addr_succ]
    exact hno (i + 1) (by simpa using hi)

/-- The last byte of the call stored to a place is what remains there (R243 (e)). -/
theorem writeBytes_last (bs : List Byte) : ∀ (d : Device) (a : Addr) (k o i : Nat) (hi : i < bs.length), d.planes.wf = true →
    Hits d (a + BitVec.ofNat 32 i) k o → (∀ j, i < j → j < bs.length → ¬ Hits d (a + BitVec.ofNat 32 j) k o) →
    (d.writeBytes a bs).planeByte k o = bs[i] := by
  classical
  induction bs with
  | nil => exact fun _ _ _ _ i hi => absurd hi (Nat.not_lt_zero i)
  | cons b bs ih =>
    intro d a k o i hi hd hit hno
    obtain ⟨m, h1, h2, h3⟩ := writeByte_spec d a b hd
    have ho : o < Config.bankSize := by rw [hit.2.2.2]; exact writeOffset_lt d _
    rw [Device.writeBytes, h1]
    rcases i with _ | i
    · have h0 : Hits d a k o := by simpa using hit
      rw [writeBytes_frame bs (d.setPlanes m) (a + 1) k o h2 ho, Device.planeByte, Device.setPlanes_planes, h3 k o ho, if_pos h0]
      · rfl
      · intro j hj
        rw [hits_setPlanes, addr_succ]
        exact hno (j + 1) (by omega) (by simpa using hj)
    · have hi' : i < bs.length := by simpa using hi
      rw [ih (d.setPlanes m) (a + 1) k o i hi' h2]
      · simp
      · rw [hits_setPlanes, addr_succ]
        exact hit
      · intro j hij hj
        rw [hits_setPlanes, addr_succ]
        exact hno (j + 1) (by omega) (by simpa using hj)

/-- ReadMemory returns a buffer of the caller's length (R120). -/
@[simp] theorem readBytes_length (d : Device) : ∀ (n : Nat) (a : Addr) (buf : List Byte), (d.readBytes a n buf).length = buf.length
  | 0, _, _ => by simp [Device.readBytes]
  | n + 1, _, [] => by simp [Device.readBytes]
  | n + 1, a, x :: rest => congrArg (· + 1) (readBytes_length d n (a + 1) rest)

/-- Every position of the buffer: the selected plane's byte inside the window, else what it held (R247). -/
theorem readBytes_get (d : Device) : ∀ (n : Nat) (a : Addr) (buf : List Byte) (i : Nat) (_ : i < n) (h : i < buf.length),
    (d.readBytes a n buf)[i]'(by simpa using h) = d.readByte (a + BitVec.ofNat 32 i) buf[i]
  | 0, _, _, _, hi, _ => absurd hi (Nat.not_lt_zero _)
  | n + 1, _, [], _, _, h => absurd h (Nat.not_lt_zero _)
  | n + 1, a, x :: rest, 0, _, _ => by simp [Device.readBytes]
  | n + 1, a, x :: rest, i + 1, hi, h => by
    have ih := readBytes_get d n (a + 1) rest i (by omega) (by simpa using h)
    simp only [Device.readBytes, List.getElem_cons_succ, ih, addr_succ]

end Sys2Proof.Laws
end

