-- ==== Sys2Proof/Laws/Render.lean ====
section
/-! SUPPORT. The render pass (R296 to R309): what the surface holds after it, and that the dirty region is the smallest rectangle
around the region before the pass and every changed element. -/

namespace Sys2Proof.Laws

open Sys2Proof Sys2Proof.Machine

/-! ### Regions -/

theorem regionLe_refl (x : DirtyRegion) : RegionLe x x := fun _ _ h => h

theorem regionLe_empty (y : DirtyRegion) : RegionLe .empty y := fun _ _ h => absurd h (by simp [DirtyRegion.contains])

@[simp] theorem contains_rect (l t r b i j : Nat) :
    (DirtyRegion.rect l t r b).contains i j = true ↔ l ≤ j ∧ j ≤ r ∧ t ≤ i ∧ i ≤ b := by
  simp [DirtyRegion.contains, and_assoc]

theorem widen_ordered {x : DirtyRegion} (hx : Ordered x) (i j : Nat) : Ordered (x.widen i j) := by
  cases x <;> simp only [Ordered, DirtyRegion.widen] at hx ⊢ <;> omega

theorem widen_ne_empty (x : DirtyRegion) (i j : Nat) : x.widen i j ≠ .empty := by
  cases x <;> simp [DirtyRegion.widen]

/-- A rectangle that is not empty lies in a region when its two opposite corners do. -/
theorem rect_le_iff {l t r b : Nat} (h : l ≤ r ∧ t ≤ b) (y : DirtyRegion) :
    RegionLe (.rect l t r b) y ↔ y.contains t l = true ∧ y.contains b r = true := by
  constructor
  · exact fun H => ⟨H t l (by simp; omega), H b r (by simp; omega)⟩
  · intro ⟨h1, h2⟩ i j hij
    cases y <;> simp_all [DirtyRegion.contains]
    omega

/-- `widen` gives the smallest region around the old one and the new element (R307). -/
theorem widen_le_iff {x : DirtyRegion} (hx : Ordered x) (i j : Nat) (y : DirtyRegion) :
    RegionLe (x.widen i j) y ↔ RegionLe x y ∧ y.contains i j = true := by
  cases x with
  | empty =>
    simp only [DirtyRegion.widen]
    rw [rect_le_iff ⟨le_rfl, le_rfl⟩]
    exact ⟨fun h => ⟨regionLe_empty y, h.1⟩, fun h => ⟨h.2, h.2⟩⟩
  | rect l t r b =>
    simp only [Ordered] at hx
    simp only [DirtyRegion.widen]
    rw [rect_le_iff hx, rect_le_iff ⟨by omega, by omega⟩]
    cases y with
    | empty => simp [DirtyRegion.contains]
    | rect l' t' r' b' => simp only [contains_rect]; omega

/-! ### One row -/

section
variable {α : Type} [DecidableEq α]

@[simp] theorem renderRow_length (new : Nat → α) (i : Nat) : ∀ (j : Nat) (row : List α) (x : DirtyRegion),
    (renderRow new i j row x).1.length = row.length
  | _, [], _ => rfl
  | j, _ :: row, x => by simp [renderRow, renderRow_length new i (j + 1) row]

/-- After the pass every element of the row holds its new value. -/
theorem renderRow_get (new : Nat → α) (i : Nat) : ∀ (j : Nat) (row : List α) (x : DirtyRegion) (c : Nat) (_ : c < row.length),
    (renderRow new i j row x).1[c]? = some (new (j + c))
  | _, [], _, c, hc => absurd hc (Nat.not_lt_zero c)
  | j, _ :: row, x, 0, _ => by simp [renderRow]
  | j, _ :: row, x, c + 1, hc => by
    simp only [renderRow, List.getElem?_cons_succ]
    rw [renderRow_get new i (j + 1) row _ c (by simpa using hc)]
    congr 2
    omega

theorem renderRow_ordered (new : Nat → α) (i : Nat) : ∀ (j : Nat) (row : List α) (x : DirtyRegion), Ordered x →
    Ordered (renderRow new i j row x).2
  | _, [], _, hx => hx
  | j, old :: row, x, hx => by
    simp only [renderRow]
    refine renderRow_ordered new i (j + 1) row _ ?_
    split_ifs
    · exact hx
    · exact widen_ordered hx i j

/-- The region after a row: the smallest around the one before and every changed element (R306, R309). -/
theorem renderRow_le_iff (new : Nat → α) (i : Nat) (y : DirtyRegion) : ∀ (j : Nat) (row : List α) (x : DirtyRegion), Ordered x →
    (RegionLe (renderRow new i j row x).2 y ↔
      RegionLe x y ∧ ∀ c (h : c < row.length), row[c] ≠ new (j + c) → y.contains i (j + c) = true)
  | _, [], _, _ => by simp [renderRow]
  | j, old :: row, x, hx => by
    have ih := renderRow_le_iff new i y (j + 1) row (if old = new j then x else x.widen i j)
      (by split_ifs; exacts [hx, widen_ordered hx i j])
    simp only [renderRow]
    rw [ih]
    have hrest : (∀ c (h : c < (old :: row).length), (old :: row)[c] ≠ new (j + c) → y.contains i (j + c) = true) ↔
        (old ≠ new j → y.contains i j = true) ∧
          ∀ c (h : c < row.length), row[c] ≠ new (j + 1 + c) → y.contains i (j + 1 + c) = true := by
      constructor
      · intro H
        refine ⟨fun h0 => H 0 (by simp) h0, fun c hc hne => ?_⟩
        have := H (c + 1) (by simpa using hc)
        simp only [List.getElem_cons_succ] at this
        rw [show j + 1 + c = j + (c + 1) by omega] at hne ⊢
        exact this hne
      · intro ⟨H0, H⟩ c hc hne
        rcases c with _ | c
        · exact H0 hne
        · rw [show j + (c + 1) = j + 1 + c by omega] at hne ⊢
          exact H c (by simpa using hc) hne
    rw [hrest]
    by_cases h : old = new j
    · simp [h]
    · rw [if_neg h, widen_le_iff hx]
      simp [h, and_assoc]

/-! ### All rows -/

@[simp] theorem renderRows_length (new : Nat → Nat → α) : ∀ (i : Nat) (rows : List (List α)) (x : DirtyRegion),
    (renderRows new i rows x).1.length = rows.length
  | _, [], _ => rfl
  | i, _ :: rows, x => by simp [renderRows, renderRows_length new (i + 1) rows]

theorem renderRows_widths (new : Nat → Nat → α) (w : Nat) : ∀ (i : Nat) (rows : List (List α)) (x : DirtyRegion),
    (∀ row ∈ rows, row.length = w) → ∀ row ∈ (renderRows new i rows x).1, row.length = w
  | _, [], _, _, _, h => by simp [renderRows] at h
  | i, r :: rows, x, hw, row, h => by
    simp only [renderRows, List.mem_cons] at h
    rcases h with rfl | h
    · simpa using hw r (by simp)
    · exact renderRows_widths new w (i + 1) rows _ (fun q hq => hw q (by simp [hq])) row h

/-- After the pass every element of the grid holds its new value. -/
theorem renderRows_get (new : Nat → Nat → α) (w : Nat) : ∀ (i : Nat) (rows : List (List α)) (x : DirtyRegion),
    (∀ row ∈ rows, row.length = w) → ∀ k c, k < rows.length → c < w →
      ((renderRows new i rows x).1[k]?.bind fun r => r[c]?) = some (new (i + k) c)
  | _, [], _, _, k, _, hk, _ => absurd hk (Nat.not_lt_zero k)
  | i, r :: rows, x, hw, 0, c, _, hc => by
    have hr : r.length = w := hw r (by simp)
    simp only [renderRows, List.getElem?_cons_zero, Option.bind_some]
    simpa using renderRow_get (new i) i 0 r x c (by omega)
  | i, r :: rows, x, hw, k + 1, c, hk, hc => by
    simp only [renderRows, List.getElem?_cons_succ]
    rw [renderRows_get new w (i + 1) rows _ (fun q hq => hw q (by simp [hq])) k c (by simpa using hk) hc]
    congr 2
    omega

theorem renderRows_ordered (new : Nat → Nat → α) : ∀ (i : Nat) (rows : List (List α)) (x : DirtyRegion), Ordered x →
    Ordered (renderRows new i rows x).2
  | _, [], _, hx => hx
  | i, r :: rows, x, hx => renderRows_ordered new (i + 1) rows _ (renderRow_ordered (new i) i 0 r x hx)

/-- The region after the pass: the smallest around the one before and every changed element (R306, R309). -/
theorem renderRows_le_iff (new : Nat → Nat → α) (y : DirtyRegion) : ∀ (i : Nat) (rows : List (List α)) (x : DirtyRegion), Ordered x →
    (RegionLe (renderRows new i rows x).2 y ↔
      RegionLe x y ∧ ∀ k (hk : k < rows.length) c (hc : c < rows[k].length), rows[k][c] ≠ new (i + k) c → y.contains (i + k) c = true)
  | _, [], _, _ => by simp [renderRows]
  | i, r :: rows, x, hx => by
    simp only [renderRows]
    rw [renderRows_le_iff new y (i + 1) rows _ (renderRow_ordered (new i) i 0 r x hx), renderRow_le_iff (new i) i y 0 r x hx,
      and_assoc]
    refine and_congr_right fun _ => ⟨fun ⟨H0, H⟩ k hk c hc hne => ?_, fun H => ⟨fun c hc hne => ?_, fun k hk c hc hne => ?_⟩⟩
    · rcases k with _ | k
      · simpa using H0 c (by simpa using hc) (by simpa using hne)
      · have h1 := H k (by simpa using hk) c (by simpa using hc)
        rw [show i + 1 + k = i + (k + 1) by omega] at h1
        exact h1 (by simpa using hne)
    · have h1 := H 0 (by simp) c (by simpa using hc)
      simpa using h1 (by simpa using hne)
    · have h1 := H (k + 1) (by simpa using hk) c (by simpa using hc)
      rw [show i + (k + 1) = i + 1 + k by omega] at h1
      exact h1 (by simpa using hne)

/-- A pass that changes nothing leaves the grid and the region as they are (R280). -/
theorem renderRow_unchanged (new : Nat → α) (i : Nat) : ∀ (j : Nat) (row : List α) (x : DirtyRegion),
    (∀ c (h : c < row.length), row[c] = new (j + c)) → renderRow new i j row x = (row, x)
  | _, [], _, _ => rfl
  | j, old :: row, x, h => by
    have h0 : old = new j := h 0 (by simp)
    have ih := renderRow_unchanged new i (j + 1) row x (fun c hc => by
      have := h (c + 1) (by simpa using hc)
      rw [show j + 1 + c = j + (c + 1) by omega]
      simpa using this)
    simp [renderRow, ← h0, ih]

theorem renderRows_unchanged (new : Nat → Nat → α) : ∀ (i : Nat) (rows : List (List α)) (x : DirtyRegion),
    (∀ k (hk : k < rows.length) c (hc : c < rows[k].length), rows[k][c] = new (i + k) c) → renderRows new i rows x = (rows, x)
  | _, [], _, _ => rfl
  | i, r :: rows, x, h => by
    have h0 := renderRow_unchanged (new i) i 0 r x (fun c hc => by
      have h1 : r[c] = new (i + 0) c := h 0 (by simp) c hc
      rw [h1, Nat.zero_add, Nat.add_zero])
    have ih := renderRows_unchanged new (i + 1) rows x (fun k hk c hc => by
      have := h (k + 1) (by simpa using hk) c (by simpa using hc)
      rw [show i + 1 + k = i + (k + 1) by omega]
      simpa using this)
    simp [renderRows, h0, ih]

end

/-! ### The whole pass -/

theorem renderPass_of_none {d : Device} (hs : d.surface = .none) : d.renderPass = d := by
  simp [Device.renderPass, hs]

theorem renderPass_of_text {d : Device} {w h : Nat} {cells : List (List TextCell)} (hs : d.surface = .text w h cells) :
    d.renderPass = (d.setSurface (.text w h (renderRows d.textCell 0 cells d.dirty).1)).setDirty
      (renderRows d.textCell 0 cells d.dirty).2 := by
  simp [Device.renderPass, hs]

theorem renderPass_of_interleaved {d : Device} {w h : Nat} {pixels : List (List Byte)} (hs : d.surface = .gfx w h pixels)
    (hp : d.pixelBy d.decodePath = none) : d.renderPass = d.setUnimplSeen true := by
  simp [Device.renderPass, hs, hp]

theorem renderPass_of_gfx {d : Device} {w h : Nat} {pixels : List (List Byte)} {f : Nat → Nat → Byte}
    (hs : d.surface = .gfx w h pixels) (hp : d.pixelBy d.decodePath = some f) :
    d.renderPass = (d.setSurface (.gfx w h (renderRows f 0 pixels d.dirty).1)).setDirty (renderRows f 0 pixels d.dirty).2 := by
  simp [Device.renderPass, hs, hp]

/-- Everything the pass can do: nothing without a surface, the marker alone on the unimplemented path, else the rows rendered. -/
theorem renderPass_cases (d : Device) :
    (d.surface = .none ∧ d.renderPass = d) ∨
    (∃ w h cells, d.surface = .text w h cells ∧
      d.renderPass = (d.setSurface (.text w h (renderRows d.textCell 0 cells d.dirty).1)).setDirty
        (renderRows d.textCell 0 cells d.dirty).2) ∨
    (∃ w h pixels, d.surface = .gfx w h pixels ∧ d.pixelBy d.decodePath = none ∧ d.renderPass = d.setUnimplSeen true) ∨
    (∃ w h pixels f, d.surface = .gfx w h pixels ∧ d.pixelBy d.decodePath = some f ∧
      d.renderPass = (d.setSurface (.gfx w h (renderRows f 0 pixels d.dirty).1)).setDirty (renderRows f 0 pixels d.dirty).2) := by
  cases hs : d.surface with
  | none => exact .inl ⟨rfl, renderPass_of_none hs⟩
  | text w h cells => exact .inr (.inl ⟨w, h, cells, rfl, renderPass_of_text hs⟩)
  | gfx w h pixels =>
    cases hp : d.pixelBy d.decodePath with
    | none => exact .inr (.inr (.inl ⟨w, h, pixels, rfl, rfl, renderPass_of_interleaved hs hp⟩))
    | some f => exact .inr (.inr (.inr ⟨w, h, pixels, f, rfl, rfl, renderPass_of_gfx hs hp⟩))

/-- The pass touches the surface, the dirty region and the marker of R302 only. -/
theorem renderPass_eq (d : Device) :
    ∃ (x : Surface) (r : DirtyRegion) (u : Bool), d.renderPass = ((d.setSurface x).setDirty r).setUnimplSeen u := by
  obtain ⟨_, h⟩ | ⟨_, _, _, _, h⟩ | ⟨_, _, _, _, _, h⟩ | ⟨_, _, _, _, _, _, h⟩ := renderPass_cases d
  all_goals
    refine ⟨d.renderPass.surface, d.renderPass.dirty, d.renderPass.unimplSeen, ?_⟩
    rw [h]
    rfl

/-- The pass keeps the surface's geometry. -/
theorem renderPass_geometry (d : Device) : d.renderPass.surface.geometry = d.surface.geometry := by
  rcases renderPass_cases d with ⟨_, h⟩ | ⟨_, _, _, hs, h⟩ | ⟨_, _, _, _, _, h⟩ | ⟨_, _, _, _, hs, _, h⟩
  · rw [h]
  · simp [h, hs, Surface.geometry]
  · rw [h, Device.setUnimplSeen_surface]
  · simp [h, hs, Surface.geometry]

/-- What the surface's wf says of a text grid. -/
theorem surface_wf_text {w h : Nat} {cells : List (List TextCell)} :
    (Surface.text w h cells).wf = true ↔ cells.length = h ∧ ∀ row ∈ cells, row.length = w := by
  simp [Surface.wf]

theorem surface_wf_gfx {w h : Nat} {pixels : List (List Byte)} :
    (Surface.gfx w h pixels).wf = true ↔ pixels.length = h ∧ ∀ row ∈ pixels, row.length = w := by
  simp [Surface.wf]

theorem renderPass_wf {d : Device} (hw : d.surface.wf = true) : d.renderPass.surface.wf = true := by
  rcases renderPass_cases d with ⟨_, h⟩ | ⟨_, _, _, hs, h⟩ | ⟨_, _, _, hs, _, h⟩ | ⟨_, _, _, _, hs, _, h⟩
  · rwa [h]
  · rw [hs, surface_wf_text] at hw
    rw [h, Device.setDirty_surface, Device.setSurface_surface, surface_wf_text]
    exact ⟨by simp [hw.1], renderRows_widths _ _ _ _ _ hw.2⟩
  · rwa [h]
  · rw [hs, surface_wf_gfx] at hw
    rw [h, Device.setDirty_surface, Device.setSurface_surface, surface_wf_gfx]
    exact ⟨by simp [hw.1], renderRows_widths _ _ _ _ _ hw.2⟩

theorem renderPass_ordered {d : Device} (ho : Ordered d.dirty) : Ordered d.renderPass.dirty := by
  rcases renderPass_cases d with ⟨_, h⟩ | ⟨_, _, _, _, h⟩ | ⟨_, _, _, _, _, h⟩ | ⟨_, _, _, _, _, _, h⟩ <;> rw [h]
  · exact ho
  · exact renderRows_ordered _ _ _ _ ho
  · exact ho
  · exact renderRows_ordered _ _ _ _ ho

/-- The element at row `i`, column `j` of a grid, as an answer. -/
def gridElement {α : Type} (g : α → Answer) (rows : List (List α)) (i j : Nat) : Option Answer :=
  (rows[i]?.bind fun r => r[j]?).map g

/-- The region after the pass over a grid of `h` rows of `w` elements: the smallest around the one before and every element that the
pass changed. -/
theorem grid_le_iff {α : Type} [DecidableEq α] (new : Nat → Nat → α) {g : α → Answer} (hg : Function.Injective g)
    {rows : List (List α)} {w h : Nat} (hh : rows.length = h) (hw : ∀ r ∈ rows, r.length = w) {x : DirtyRegion} (ho : Ordered x)
    (y : DirtyRegion) :
    RegionLe (renderRows new 0 rows x).2 y ↔
      RegionLe x y ∧ ∀ i j, i < h → j < w →
        gridElement g (renderRows new 0 rows x).1 i j ≠ gridElement g rows i j → y.contains i j = true := by
  have key : ∀ i j (h1 : i < rows.length) (h2 : j < rows[i].length),
      gridElement g (renderRows new 0 rows x).1 i j ≠ gridElement g rows i j ↔ rows[i][j] ≠ new (0 + i) j := by
    intro i j h1 h2
    have hl := hw _ (List.getElem_mem h1)
    unfold gridElement
    rw [renderRows_get new w 0 rows x hw i j h1 (by omega), List.getElem?_eq_getElem h1]
    simp [List.getElem?_eq_getElem h2, hg.eq_iff, eq_comm]
  rw [renderRows_le_iff new y 0 rows x ho]
  refine and_congr_right fun _ => ⟨fun H i j h1 h2 hne => ?_, fun H i h1 j h2 hne => ?_⟩
  · have h1' : i < rows.length := by omega
    have hl := hw _ (List.getElem_mem h1')
    simpa using H i h1' j (by omega) ((key i j h1' (by omega)).1 hne)
  · have hl := hw _ (List.getElem_mem h1)
    simpa using H i j (by omega) (by omega) ((key i j h1 h2).2 hne)

/-- The dirty region after the pass, on a surface of its own size: the smallest region around the one before the pass and every row and
column whose element the pass changed (R306, R307, R309). -/
theorem renderPass_le_iff {d : Device} (hw : d.surface.wf = true) (ho : Ordered d.dirty) {g : Geometry}
    (hg : d.surface.geometry = some g) (y : DirtyRegion) :
    RegionLe d.renderPass.dirty y ↔
      RegionLe d.dirty y ∧ ∀ i j, i < g.height → j < g.width →
        d.renderPass.surface.element i j ≠ d.surface.element i j → y.contains i j = true := by
  rcases renderPass_cases d with ⟨hs, h⟩ | ⟨w, h, cells, hs, hr⟩ | ⟨w, h, pixels, hs, _, hr⟩ | ⟨w, h, pixels, f, hs, _, hr⟩
  · simp [hs, Surface.geometry] at hg
  · rw [hs] at hg hw
    obtain rfl : _ = g := Option.some.inj hg
    rw [surface_wf_text] at hw
    simp only [hr, Device.setDirty_dirty, Device.setDirty_surface, Device.setSurface_surface, hs]
    rw [grid_le_iff d.textCell (g := Answer.cell) (fun a b e => by simpa using e) hw.1 hw.2 ho y]
    refine and_congr_right fun _ => forall₄_congr fun i j h1 h2 => ?_
    simp [Surface.element, gridElement, h1, h2]
  · simp [hr]
  · rw [hs] at hg hw
    obtain rfl : _ = g := Option.some.inj hg
    rw [surface_wf_gfx] at hw
    simp only [hr, Device.setDirty_dirty, Device.setDirty_surface, Device.setSurface_surface, hs]
    rw [grid_le_iff f (g := Answer.pixel) (fun a b e => by simpa using e) hw.1 hw.2 ho y]
    refine and_congr_right fun _ => forall₄_congr fun i j h1 h2 => ?_
    simp [Surface.element, gridElement, h1, h2]

/-- Only path 3 of R298 decodes no pixel. -/
theorem pixelBy_eq_none (d : Device) (p : DecodePath) : d.pixelBy p = none ↔ p = .interleaved := by
  cases p <;> simp [Device.pixelBy]

/-- The unimplemented path is chosen by the shift-register bit without Shift-256, for either value of COLOR8 (R298). -/
theorem decodePath_eq_interleaved (d : Device) : d.decodePath = .interleaved ↔ d.shift256 = false ∧ d.shiftReg = true := by
  unfold Device.decodePath
  cases d.shift256 <;> cases d.shiftReg <;> cases d.color8 <;> simp

/-- The marker after the pass: set by the unimplemented path on a graphics surface, else kept (R49, R302, R363). -/
theorem renderPass_unimplSeen {d : Device} {g : Geometry} (hg : d.surface.geometry = some g) :
    d.renderPass.unimplSeen = (d.unimplSeen || (!g.isText && !d.shift256 && d.shiftReg)) := by
  rcases renderPass_cases d with ⟨hs, h⟩ | ⟨w, h, cells, hs, hr⟩ | ⟨w, h, pixels, hs, hp, hr⟩ | ⟨w, h, pixels, f, hs, hp, hr⟩
  · simp [hs, Surface.geometry] at hg
  · rw [hs] at hg
    obtain rfl : _ = g := Option.some.inj hg
    simp [hr]
  · rw [hs] at hg
    obtain rfl : _ = g := Option.some.inj hg
    rw [pixelBy_eq_none, decodePath_eq_interleaved] at hp
    simp [hr, hp]
  · rw [hs] at hg
    obtain rfl : _ = g := Option.some.inj hg
    have hn : ¬ (d.shift256 = false ∧ d.shiftReg = true) := by
      rw [← decodePath_eq_interleaved, ← pixelBy_eq_none d, hp]
      simp
    rw [hr]
    revert hn
    cases d.shift256 <;> cases d.shiftReg <;> simp

theorem blank_wf (g : Geometry) : (Surface.blank g).wf = true := by
  unfold Surface.blank
  split_ifs
  · rw [surface_wf_text]
    exact ⟨by simp, fun row h => by rw [List.eq_of_mem_replicate h]; simp⟩
  · rw [surface_wf_gfx]
    exact ⟨by simp, fun row h => by rw [List.eq_of_mem_replicate h]; simp⟩

theorem blank_geometry (g : Geometry) : (Surface.blank g).geometry = some g := by
  obtain ⟨t, w, h⟩ := g
  cases t <;> simp [Surface.blank, Surface.geometry]

/-- Every element of a new surface is the zero element (R284). -/
theorem blank_element (g : Geometry) {i j : Nat} (hi : i < g.height) (hj : j < g.width) :
    (Surface.blank g).element i j = some (if g.isText then .cell ⟨0, 0⟩ else .pixel 0) := by
  obtain ⟨t, w, h⟩ := g
  simp only at hi hj
  cases t <;> simp [Surface.blank, Surface.element, hi, hj]

end Sys2Proof.Laws
end

