-- ==== Sys2Proof/Laws/Exec.lean ====
section
/-! SUPPORT. What the memory operations and RefreshDisplay can answer, said once: the provers cite these and unfold nothing. -/

namespace Sys2Proof.Laws

open Sys2Proof Sys2Proof.Machine

/-! ### The premise of U6 is off (log entry 8) -/

@[simp] theorem accessBreaksPremise_eq_false (d : Device) : ∀ (n : Nat) (a : Addr), d.accessBreaksPremise a n = false
  | 0, _ => rfl
  | n + 1, a => by
    rw [Device.accessBreaksPremise, accessBreaksPremise_eq_false d n (a + 1)]
    simp

@[simp] theorem passBreaksPremise_eq_false (d : Device) : d.passBreaksPremise = false := by
  simp [Device.passBreaksPremise]

/-! ### The memory operations -/

theorem execMemw_eq (a : Addr) (bytes : List Byte) (s : State) :
    execMemw a bytes s = complete s (s.dev.writeMemory a bytes) .none := by
  unfold execMemw complete ifAlive
  cases s.dev.fatal <;> simp

theorem execMemr_eq (a : Addr) (length : Nat) (buf : List Byte) (s : State) :
    execMemr a length buf s = complete s s.dev (.bytes (s.dev.readMemory a length buf)) := by
  unfold execMemr complete ifAlive
  cases s.dev.fatal <;> simp

/-! ### RefreshDisplay -/

theorem execRefresh_next {s t : State} :
    execRefresh s = .next t ↔ s.dev.fatal = false ∧
      t = { s with
        dev := (s.dev.refresh (Config.allocOk s.draws s.dev.geometry)).1
        answer := (s.dev.refresh (Config.allocOk s.draws s.dev.geometry)).2
        draws := if s.dev.reallocNeeded then s.draws + 1 else s.draws } := by
  simp only [execRefresh, ifAlive_next, passBreaksPremise_eq_false, Bool.false_eq_true, if_false, Host.Outcome.next.injEq]
  rw [eq_comm (a := t)]

theorem reallocNeeded_iff (d : Device) :
    d.reallocNeeded = true ↔ d.modeChanged = true ∨ d.surface.geometry ≠ some d.geometry := by
  simp [Device.reallocNeeded]

/-- Everything RefreshDisplay can do (R280): the pass on the surface there is, the pass on a new surface, or the fatal condition. -/
theorem refresh_cases (d : Device) (ok : Bool) :
    (d.reallocNeeded = false ∧ d.refresh ok = (d.renderPass.endRefresh, .none)) ∨
    (d.reallocNeeded = true ∧ ok = true ∧ d.refresh ok = (d.reallocate.renderPass.endRefresh, .none)) ∨
    (d.reallocNeeded = true ∧ ok = false ∧ d.refresh ok = (d.raiseFatal, .fatalSurfaceAlloc)) := by
  unfold Device.refresh
  cases d.reallocNeeded <;> cases ok <;> simp

/-- The pass leaves every register and every plane byte as it is. -/
theorem renderPass_regs (d : Device) :
    d.renderPass.seq = d.seq ∧ d.renderPass.gc = d.gc ∧ d.renderPass.crtc = d.crtc ∧ d.renderPass.ac = d.ac ∧
      d.renderPass.planes = d.planes ∧ d.renderPass.modeChanged = d.modeChanged ∧ d.renderPass.fatal = d.fatal ∧
      d.renderPass.repaintPending = d.repaintPending := by
  obtain ⟨x, r, u, h⟩ := renderPass_eq d
  rw [h]
  exact ⟨rfl, rfl, rfl, rfl, rfl, rfl, rfl, rfl⟩

/-- A reallocation leaves the registers, so the geometry they resolve to. -/
theorem reallocate_geometry (d : Device) : d.reallocate.geometry = d.geometry := rfl

/-! ### The updates of a refresh as record updates -/

theorem endRefresh_eq (d : Device) :
    d.endRefresh =
      { d with
        cursorMoved := false
        paletteChanged := false
        repaintPending := d.repaintPending || decide (d.dirty ≠ .empty) } := rfl

theorem raiseFatal_eq (d : Device) :
    d.raiseFatal = { d with surface := .none, fatal := true, modeChanged := false, dirty := .empty } := rfl

theorem reallocate_eq (d : Device) :
    d.reallocate = { d with modeChanged := false, surface := Surface.blank d.geometry, dirty := .empty } := rfl

theorem renderPass_update (d : Device) :
    d.renderPass =
      { d with surface := d.renderPass.surface, dirty := d.renderPass.dirty, unimplSeen := d.renderPass.unimplSeen } := by
  obtain ⟨x, r, u, h⟩ := renderPass_eq d
  rw [h]
  rfl

/-- The fields a refresh may change (R280). -/
theorem refresh_update (d : Device) (ok : Bool) :
    (d.refresh ok).1 =
      { d with
        modeChanged := (d.refresh ok).1.modeChanged
        cursorMoved := (d.refresh ok).1.cursorMoved
        paletteChanged := (d.refresh ok).1.paletteChanged
        surface := (d.refresh ok).1.surface
        dirty := (d.refresh ok).1.dirty
        repaintPending := (d.refresh ok).1.repaintPending
        unimplSeen := (d.refresh ok).1.unimplSeen
        fatal := (d.refresh ok).1.fatal } := by
  rcases refresh_cases d ok with ⟨_, e⟩ | ⟨_, _, e⟩ | ⟨_, _, e⟩ <;> rw [e]
  · generalize h : d.renderPass = x
    rw [renderPass_update] at h
    subst h
    rfl
  · generalize h : d.reallocate.renderPass = x
    rw [renderPass_update, reallocate_eq] at h
    subst h
    rfl
  · rfl

end Sys2Proof.Laws
end

