-- ==== Sys2Proof/Laws/Effects.lean ====
section
/-! SUPPORT. What an operation can do to the device, said once for all 159 constructors: an invariant of the step is proved from these
nineteen effects, with no meaning unfolded. -/

namespace Sys2Proof.Laws

open Sys2Proof Sys2Proof.Machine

/-- `DeviceEffect d n i d'`: the operation `i`, at device `d` with `n` open values drawn, can leave the device `d'`. -/
inductive DeviceEffect (d : Device) (n : Nat) : Instr → Device → Prop where
  /-- every read of a register, every ignored write, the host's queries -/
  | unchanged (i : Instr) : DeviceEffect d n i d
  | seqIndex (v : Byte) : DeviceEffect d n (.outPortSeqIndex v) (d.setSeqIndex (selectIndex d.seqIndex v))
  | seqData (i : Instr) (v : Byte) (h : i = .outPortSeqData v ∨ ∃ k, i = seqWriteRow k v) : DeviceEffect d n i (d.seqDataWrite v)
  | gcIndex (v : Byte) : DeviceEffect d n (.outPortGcIndex v) (d.setGcIndex (selectIndex d.gcIndex v))
  | gcData (i : Instr) (v : Byte) (h : i = .outPortGcData v ∨ ∃ k, i = gcWriteRow k v) : DeviceEffect d n i (d.gcDataWrite v)
  | crtcIndex (v : Byte) : DeviceEffect d n (.outPortCrtcIndex v) (d.setCrtcIndex (selectIndex d.crtcIndex v))
  | crtcData (i : Instr) (v : Byte) (h : i = .outPortCrtcData v ∨ ∃ k, i = crtcWriteRow k v) :
    DeviceEffect d n i (d.crtcDataWrite v)
  | acWrite (i : Instr) (v : Byte) (h : i = .outPortAcIndexData v ∨ ∃ k, i = acWriteRow k v) : DeviceEffect d n i (d.acWrite v)
  | misc (v : Byte) : DeviceEffect d n (.outPortMiscWrite v) (d.setMisc v)
  | dacReadIndex (v : Byte) : DeviceEffect d n (.outPortDacReadIndex v) ((d.setDacDir .read).setDacIndex (dacEntryStart v))
  | dacWriteIndex (v : Byte) : DeviceEffect d n (.outPortDacWriteIndex v) ((d.setDacDir .write).setDacIndex (dacEntryStart v))
  | dacDataWrite (v : Byte) : DeviceEffect d n (.outPortDacData v) (d.dacDataWrite v)
  | dacDataRead (h : d.dacDir = .read) : DeviceEffect d n .inPortDacData (d.setDacIndex (dacNext d.dacIndex))
  | status : DeviceEffect d n .inPortStatus d.clearStatus
  | hretrace : DeviceEffect d n .hretrace (d.setHRetrace true)
  | vretrace : DeviceEffect d n .vretrace (d.setVRetrace true)
  | memw (a : Addr) (bs : List Byte) : DeviceEffect d n (.memw a bs) (d.writeMemory a bs)
  | refresh : DeviceEffect d n .refresh (d.refresh (Config.allocOk n d.geometry)).1
  | takedirty : DeviceEffect d n .takedirty ((d.setDirty .empty).setRepaintPending false)
  | seed (x : Seed) : DeviceEffect d n (.seed x) (d.loadSeed x)

theorem seqRow_effect (d : Device) (n : Nat) (k : Fin Config.seqCount) (v : Byte) (i : Instr) (h : i = seqWriteRow k v) :
    DeviceEffect d n i (d.seqRowWrite k v) :=
  seqRowWrite_eq k v d ▸ .seqData i v (.inr ⟨k, h⟩)

theorem gcRow_effect (d : Device) (n : Nat) (k : Fin Config.gcCount) (v : Byte) (i : Instr) (h : i = gcWriteRow k v) :
    DeviceEffect d n i (d.gcRowWrite k v) :=
  gcRowWrite_eq k v d ▸ .gcData i v (.inr ⟨k, h⟩)

theorem crtcRow_effect (d : Device) (n : Nat) (k : Fin Config.crtcCount) (v : Byte) (i : Instr) (h : i = crtcWriteRow k v) :
    DeviceEffect d n i (d.crtcRowWrite k v) :=
  crtcRowWrite_eq k v d ▸ .crtcData i v (.inr ⟨k, h⟩)

theorem acRow_effect (d : Device) (n : Nat) (k : Fin Config.acCount) (v : Byte) (i : Instr) (h : i = acWriteRow k v) :
    DeviceEffect d n i (d.acRowWrite k v) :=
  acRowWrite_eq k v d ▸ .acWrite i v (.inr ⟨k, h⟩)

/-- What `complete` leaves: nothing but the device and the answer change. -/
theorem effect_of_complete {s t : State} {i : Instr} {d : Device} {a : Answer} (h : complete s d a = .next t)
    (e : DeviceEffect s.dev s.draws i d) :
    s.dev.fatal = false ∧ t.pending = s.pending ∧ DeviceEffect s.dev s.draws i t.dev := by
  obtain ⟨h0, rfl⟩ := complete_next.1 h
  exact ⟨h0, rfl, e⟩

theorem effect_of_openByte {s t : State} {i : Instr} (h : completeOpenByte s = .next t) :
    s.dev.fatal = false ∧ t.pending = s.pending ∧ DeviceEffect s.dev s.draws i t.dev := by
  obtain ⟨h0, rfl⟩ := completeOpenByte_next.1 h
  exact ⟨h0, rfl, .unchanged i⟩

theorem effect_of_surf {s t : State} {at? : Option (Nat × Nat)} (h : execSurf at? s = .next t) :
    s.dev.fatal = false ∧ t.pending = s.pending ∧ t.dev = s.dev := by
  obtain ⟨h0, h⟩ := ifAlive_next.1 h
  cases at? with
  | none => obtain ⟨_, rfl⟩ := complete_next.1 h; exact ⟨h0, rfl, rfl⟩
  | some rc =>
    revert h
    cases he : s.dev.surface.element rc.1 rc.2 with
    | none => simp [he]
    | some a =>
      simp only [he]
      intro h
      obtain ⟨_, rfl⟩ := complete_next.1 h
      exact ⟨h0, rfl, rfl⟩

theorem effect_of_cursor {s t : State} (h : execCursor s = .next t) :
    s.dev.fatal = false ∧ t.pending = s.pending ∧ t.dev = s.dev := by
  unfold execCursor at h
  split_ifs at h
  · obtain ⟨h0, h⟩ := ifAlive_next.1 h
    obtain rfl : _ = t := by simpa using h
    exact ⟨h0, rfl, rfl⟩
  · obtain ⟨h0, rfl⟩ := complete_next.1 h
    exact ⟨h0, rfl, rfl⟩

/-- Everything an operation can do: it leaves the pending operations as they are and has one of the effects on the device. -/
theorem exec_effect {i : Instr} {s t : State} (h : exec i s = .next t) :
    s.dev.fatal = false ∧ t.pending = s.pending ∧ DeviceEffect s.dev s.draws i t.dev := by
  cases i with
  | outPortAcIndexData v => exact effect_of_complete h (.acWrite _ v (.inl rfl))
  | inPortAcIndexData => exact effect_of_complete h (.unchanged _)
  | outPortAcRead v => exact effect_of_complete h (.unchanged _)
  | inPortAcRead => exact effect_of_complete h (.unchanged _)
  | outPortMiscWrite v => exact effect_of_complete h (.misc v)
  | inPortMiscWrite => exact effect_of_openByte h
  | outPortSeqIndex v => exact effect_of_complete h (.seqIndex v)
  | inPortSeqIndex => exact effect_of_complete h (.unchanged _)
  | outPortSeqData v => exact effect_of_complete h (.seqData _ v (.inl rfl))
  | inPortSeqData => exact effect_of_complete h (.unchanged _)
  | outPortDacReadIndex v => exact effect_of_complete h (.dacReadIndex v)
  | inPortDacReadIndex => exact effect_of_openByte h
  | outPortDacWriteIndex v => exact effect_of_complete h (.dacWriteIndex v)
  | inPortDacWriteIndex => exact effect_of_complete h (.unchanged _)
  | outPortDacData v => exact effect_of_complete h (.dacDataWrite v)
  | inPortDacData =>
    rw [exec, execInPortDacData] at h
    split at h
    · exact effect_of_complete h (.dacDataRead (by assumption))
    · exact effect_of_openByte h
  | outPortMiscRead v => exact effect_of_complete h (.unchanged _)
  | inPortMiscRead => exact effect_of_complete h (.unchanged _)
  | outPortGcIndex v => exact effect_of_complete h (.gcIndex v)
  | inPortGcIndex => exact effect_of_complete h (.unchanged _)
  | outPortGcData v => exact effect_of_complete h (.gcData _ v (.inl rfl))
  | inPortGcData => exact effect_of_complete h (.unchanged _)
  | outPortCrtcIndex v => exact effect_of_complete h (.crtcIndex v)
  | inPortCrtcIndex => exact effect_of_complete h (.unchanged _)
  | outPortCrtcData v => exact effect_of_complete h (.crtcData _ v (.inl rfl))
  | inPortCrtcData => exact effect_of_complete h (.unchanged _)
  | outPortStatus v => exact effect_of_complete h (.unchanged _)
  | inPortStatus => exact effect_of_complete h .status
  | writeSeqReset v => exact effect_of_complete h (seqRow_effect _ _ 0 v _ rfl)
  | readSeqReset => exact effect_of_complete h (.unchanged _)
  | writeSeqClock v => exact effect_of_complete h (seqRow_effect _ _ 1 v _ rfl)
  | readSeqClock => exact effect_of_complete h (.unchanged _)
  | writeSeqMapMask v => exact effect_of_complete h (seqRow_effect _ _ 2 v _ rfl)
  | readSeqMapMask => exact effect_of_complete h (.unchanged _)
  | writeSeqCharMap v => exact effect_of_complete h (seqRow_effect _ _ 3 v _ rfl)
  | readSeqCharMap => exact effect_of_complete h (.unchanged _)
  | writeSeqMem v => exact effect_of_complete h (seqRow_effect _ _ 4 v _ rfl)
  | readSeqMem => exact effect_of_complete h (.unchanged _)
  | writeGcSetReset v => exact effect_of_complete h (gcRow_effect _ _ 0 v _ rfl)
  | readGcSetReset => exact effect_of_complete h (.unchanged _)
  | writeGcEnableSetReset v => exact effect_of_complete h (gcRow_effect _ _ 1 v _ rfl)
  | readGcEnableSetReset => exact effect_of_complete h (.unchanged _)
  | writeGcColorCompare v => exact effect_of_complete h (gcRow_effect _ _ 2 v _ rfl)
  | readGcColorCompare => exact effect_of_complete h (.unchanged _)
  | writeGcRotate v => exact effect_of_complete h (gcRow_effect _ _ 3 v _ rfl)
  | readGcRotate => exact effect_of_complete h (.unchanged _)
  | writeGcReadMap v => exact effect_of_complete h (gcRow_effect _ _ 4 v _ rfl)
  | readGcReadMap => exact effect_of_complete h (.unchanged _)
  | writeGcMode v => exact effect_of_complete h (gcRow_effect _ _ 5 v _ rfl)
  | readGcMode => exact effect_of_complete h (.unchanged _)
  | writeGcMisc v => exact effect_of_complete h (gcRow_effect _ _ 6 v _ rfl)
  | readGcMisc => exact effect_of_complete h (.unchanged _)
  | writeGcDontCare v => exact effect_of_complete h (gcRow_effect _ _ 7 v _ rfl)
  | readGcDontCare => exact effect_of_complete h (.unchanged _)
  | writeGcBitMask v => exact effect_of_complete h (gcRow_effect _ _ 8 v _ rfl)
  | readGcBitMask => exact effect_of_complete h (.unchanged _)
  | writeCrtcHorzTotal v => exact effect_of_complete h (crtcRow_effect _ _ 0 v _ rfl)
  | readCrtcHorzTotal => exact effect_of_complete h (.unchanged _)
  | writeCrtcEndHorzDisp v => exact effect_of_complete h (crtcRow_effect _ _ 1 v _ rfl)
  | readCrtcEndHorzDisp => exact effect_of_complete h (.unchanged _)
  | writeCrtcStartHorzBlank v => exact effect_of_complete h (crtcRow_effect _ _ 2 v _ rfl)
  | readCrtcStartHorzBlank => exact effect_of_complete h (.unchanged _)
  | writeCrtcEndHorzBlank v => exact effect_of_complete h (crtcRow_effect _ _ 3 v _ rfl)
  | readCrtcEndHorzBlank => exact effect_of_complete h (.unchanged _)
  | writeCrtcStartHorzRetrace v => exact effect_of_complete h (crtcRow_effect _ _ 4 v _ rfl)
  | readCrtcStartHorzRetrace => exact effect_of_complete h (.unchanged _)
  | writeCrtcEndHorzRetrace v => exact effect_of_complete h (crtcRow_effect _ _ 5 v _ rfl)
  | readCrtcEndHorzRetrace => exact effect_of_complete h (.unchanged _)
  | writeCrtcVertTotal v => exact effect_of_complete h (crtcRow_effect _ _ 6 v _ rfl)
  | readCrtcVertTotal => exact effect_of_complete h (.unchanged _)
  | writeCrtcOverflow v => exact effect_of_complete h (crtcRow_effect _ _ 7 v _ rfl)
  | readCrtcOverflow => exact effect_of_complete h (.unchanged _)
  | writeCrtcPresetRowScan v => exact effect_of_complete h (crtcRow_effect _ _ 8 v _ rfl)
  | readCrtcPresetRowScan => exact effect_of_complete h (.unchanged _)
  | writeCrtcMaxScan v => exact effect_of_complete h (crtcRow_effect _ _ 9 v _ rfl)
  | readCrtcMaxScan => exact effect_of_complete h (.unchanged _)
  | writeCrtcCursorStart v => exact effect_of_complete h (crtcRow_effect _ _ 10 v _ rfl)
  | readCrtcCursorStart => exact effect_of_complete h (.unchanged _)
  | writeCrtcCursorEnd v => exact effect_of_complete h (crtcRow_effect _ _ 11 v _ rfl)
  | readCrtcCursorEnd => exact effect_of_complete h (.unchanged _)
  | writeCrtcStartHigh v => exact effect_of_complete h (crtcRow_effect _ _ 12 v _ rfl)
  | readCrtcStartHigh => exact effect_of_complete h (.unchanged _)
  | writeCrtcStartLow v => exact effect_of_complete h (crtcRow_effect _ _ 13 v _ rfl)
  | readCrtcStartLow => exact effect_of_complete h (.unchanged _)
  | writeCrtcCursorLocHigh v => exact effect_of_complete h (crtcRow_effect _ _ 14 v _ rfl)
  | readCrtcCursorLocHigh => exact effect_of_complete h (.unchanged _)
  | writeCrtcCursorLocLow v => exact effect_of_complete h (crtcRow_effect _ _ 15 v _ rfl)
  | readCrtcCursorLocLow => exact effect_of_complete h (.unchanged _)
  | writeCrtcVertRetraceStart v => exact effect_of_complete h (crtcRow_effect _ _ 16 v _ rfl)
  | readCrtcVertRetraceStart => exact effect_of_complete h (.unchanged _)
  | writeCrtcVertRetraceEnd v => exact effect_of_complete h (crtcRow_effect _ _ 17 v _ rfl)
  | readCrtcVertRetraceEnd => exact effect_of_complete h (.unchanged _)
  | writeCrtcVertDispEnd v => exact effect_of_complete h (crtcRow_effect _ _ 18 v _ rfl)
  | readCrtcVertDispEnd => exact effect_of_complete h (.unchanged _)
  | writeCrtcOffset v => exact effect_of_complete h (crtcRow_effect _ _ 19 v _ rfl)
  | readCrtcOffset => exact effect_of_complete h (.unchanged _)
  | writeCrtcUnderline v => exact effect_of_complete h (crtcRow_effect _ _ 20 v _ rfl)
  | readCrtcUnderline => exact effect_of_complete h (.unchanged _)
  | writeCrtcStartVertBlank v => exact effect_of_complete h (crtcRow_effect _ _ 21 v _ rfl)
  | readCrtcStartVertBlank => exact effect_of_complete h (.unchanged _)
  | writeCrtcEndVertBlank v => exact effect_of_complete h (crtcRow_effect _ _ 22 v _ rfl)
  | readCrtcEndVertBlank => exact effect_of_complete h (.unchanged _)
  | writeCrtcMode v => exact effect_of_complete h (crtcRow_effect _ _ 23 v _ rfl)
  | readCrtcMode => exact effect_of_complete h (.unchanged _)
  | writeCrtcLineCompare v => exact effect_of_complete h (crtcRow_effect _ _ 24 v _ rfl)
  | readCrtcLineCompare => exact effect_of_complete h (.unchanged _)
  | writeAcPal0 v => exact effect_of_complete h (acRow_effect _ _ 0 v _ rfl)
  | readAcPal0 => exact effect_of_complete h (.unchanged _)
  | writeAcPal1 v => exact effect_of_complete h (acRow_effect _ _ 1 v _ rfl)
  | readAcPal1 => exact effect_of_complete h (.unchanged _)
  | writeAcPal2 v => exact effect_of_complete h (acRow_effect _ _ 2 v _ rfl)
  | readAcPal2 => exact effect_of_complete h (.unchanged _)
  | writeAcPal3 v => exact effect_of_complete h (acRow_effect _ _ 3 v _ rfl)
  | readAcPal3 => exact effect_of_complete h (.unchanged _)
  | writeAcPal4 v => exact effect_of_complete h (acRow_effect _ _ 4 v _ rfl)
  | readAcPal4 => exact effect_of_complete h (.unchanged _)
  | writeAcPal5 v => exact effect_of_complete h (acRow_effect _ _ 5 v _ rfl)
  | readAcPal5 => exact effect_of_complete h (.unchanged _)
  | writeAcPal6 v => exact effect_of_complete h (acRow_effect _ _ 6 v _ rfl)
  | readAcPal6 => exact effect_of_complete h (.unchanged _)
  | writeAcPal7 v => exact effect_of_complete h (acRow_effect _ _ 7 v _ rfl)
  | readAcPal7 => exact effect_of_complete h (.unchanged _)
  | writeAcPal8 v => exact effect_of_complete h (acRow_effect _ _ 8 v _ rfl)
  | readAcPal8 => exact effect_of_complete h (.unchanged _)
  | writeAcPal9 v => exact effect_of_complete h (acRow_effect _ _ 9 v _ rfl)
  | readAcPal9 => exact effect_of_complete h (.unchanged _)
  | writeAcPal10 v => exact effect_of_complete h (acRow_effect _ _ 10 v _ rfl)
  | readAcPal10 => exact effect_of_complete h (.unchanged _)
  | writeAcPal11 v => exact effect_of_complete h (acRow_effect _ _ 11 v _ rfl)
  | readAcPal11 => exact effect_of_complete h (.unchanged _)
  | writeAcPal12 v => exact effect_of_complete h (acRow_effect _ _ 12 v _ rfl)
  | readAcPal12 => exact effect_of_complete h (.unchanged _)
  | writeAcPal13 v => exact effect_of_complete h (acRow_effect _ _ 13 v _ rfl)
  | readAcPal13 => exact effect_of_complete h (.unchanged _)
  | writeAcPal14 v => exact effect_of_complete h (acRow_effect _ _ 14 v _ rfl)
  | readAcPal14 => exact effect_of_complete h (.unchanged _)
  | writeAcPal15 v => exact effect_of_complete h (acRow_effect _ _ 15 v _ rfl)
  | readAcPal15 => exact effect_of_complete h (.unchanged _)
  | writeAcMode v => exact effect_of_complete h (acRow_effect _ _ 16 v _ rfl)
  | readAcMode => exact effect_of_complete h (.unchanged _)
  | writeAcOverscan v => exact effect_of_complete h (acRow_effect _ _ 17 v _ rfl)
  | readAcOverscan => exact effect_of_complete h (.unchanged _)
  | writeAcPlaneEnable v => exact effect_of_complete h (acRow_effect _ _ 18 v _ rfl)
  | readAcPlaneEnable => exact effect_of_complete h (.unchanged _)
  | writeAcPanning v => exact effect_of_complete h (acRow_effect _ _ 19 v _ rfl)
  | readAcPanning => exact effect_of_complete h (.unchanged _)
  | writeAcColorSelect v => exact effect_of_complete h (acRow_effect _ _ 20 v _ rfl)
  | readAcColorSelect => exact effect_of_complete h (.unchanged _)
  | memw a bs => exact effect_of_complete ((execMemw_eq a bs s).symm.trans h) (.memw a bs)
  | memr a n buf => exact effect_of_complete ((execMemr_eq a n buf s).symm.trans h) (.unchanged _)
  | refresh =>
    obtain ⟨h0, rfl⟩ := execRefresh_next.1 h
    exact ⟨h0, rfl, .refresh⟩
  | hretrace => exact effect_of_complete h .hretrace
  | vretrace => exact effect_of_complete h .vretrace
  | res => exact effect_of_complete h (.unchanged _)
  | istext => exact effect_of_complete h (.unchanged _)
  | takedirty => exact effect_of_complete h .takedirty
  | surf at? =>
    obtain ⟨h0, h1, h2⟩ := effect_of_surf h
    exact ⟨h0, h1, h2 ▸ .unchanged _⟩
  | cursor =>
    obtain ⟨h0, h1, h2⟩ := effect_of_cursor h
    exact ⟨h0, h1, h2 ▸ .unchanged _⟩
  | seed x => exact effect_of_complete h (.seed x)

end Sys2Proof.Laws
end

