-- ==== Sys2Proof/Laws/PerInstr.lean ====
section
/-! SUPPORT. The family RoundTrip, one lemma per constructor: decoding the bytes of a well-formed operation gives it back, with what
followed it. -/

namespace Sys2Proof.Laws

open Sys2Proof

/-- Decoding the bytes of `i` gives `i` back and leaves what followed them. -/
def RoundTrip.Statement (i : Instr) : Prop :=
  i.wellFormed = true → ∀ rest : List Byte, decode (encode i ++ rest) = .ok (i, rest)

theorem RoundTrip.outPortAcIndexData (v : Byte) : RoundTrip.Statement (.outPortAcIndexData v) :=
  fun _ rest => decode_encodePw .acIndexData v rest

theorem RoundTrip.inPortAcIndexData : RoundTrip.Statement .inPortAcIndexData :=
  fun _ rest => decode_encodePr .acIndexData rest

theorem RoundTrip.outPortAcRead (v : Byte) : RoundTrip.Statement (.outPortAcRead v) :=
  fun _ rest => decode_encodePw .acRead v rest

theorem RoundTrip.inPortAcRead : RoundTrip.Statement .inPortAcRead :=
  fun _ rest => decode_encodePr .acRead rest

theorem RoundTrip.outPortMiscWrite (v : Byte) : RoundTrip.Statement (.outPortMiscWrite v) :=
  fun _ rest => decode_encodePw .miscWrite v rest

theorem RoundTrip.inPortMiscWrite : RoundTrip.Statement .inPortMiscWrite :=
  fun _ rest => decode_encodePr .miscWrite rest

theorem RoundTrip.outPortSeqIndex (v : Byte) : RoundTrip.Statement (.outPortSeqIndex v) :=
  fun _ rest => decode_encodePw .seqIndex v rest

theorem RoundTrip.inPortSeqIndex : RoundTrip.Statement .inPortSeqIndex :=
  fun _ rest => decode_encodePr .seqIndex rest

theorem RoundTrip.outPortSeqData (v : Byte) : RoundTrip.Statement (.outPortSeqData v) :=
  fun _ rest => decode_encodePw .seqData v rest

theorem RoundTrip.inPortSeqData : RoundTrip.Statement .inPortSeqData :=
  fun _ rest => decode_encodePr .seqData rest

theorem RoundTrip.outPortDacReadIndex (v : Byte) : RoundTrip.Statement (.outPortDacReadIndex v) :=
  fun _ rest => decode_encodePw .dacReadIndex v rest

theorem RoundTrip.inPortDacReadIndex : RoundTrip.Statement .inPortDacReadIndex :=
  fun _ rest => decode_encodePr .dacReadIndex rest

theorem RoundTrip.outPortDacWriteIndex (v : Byte) : RoundTrip.Statement (.outPortDacWriteIndex v) :=
  fun _ rest => decode_encodePw .dacWriteIndex v rest

theorem RoundTrip.inPortDacWriteIndex : RoundTrip.Statement .inPortDacWriteIndex :=
  fun _ rest => decode_encodePr .dacWriteIndex rest

theorem RoundTrip.outPortDacData (v : Byte) : RoundTrip.Statement (.outPortDacData v) :=
  fun _ rest => decode_encodePw .dacData v rest

theorem RoundTrip.inPortDacData : RoundTrip.Statement .inPortDacData :=
  fun _ rest => decode_encodePr .dacData rest

theorem RoundTrip.outPortMiscRead (v : Byte) : RoundTrip.Statement (.outPortMiscRead v) :=
  fun _ rest => decode_encodePw .miscRead v rest

theorem RoundTrip.inPortMiscRead : RoundTrip.Statement .inPortMiscRead :=
  fun _ rest => decode_encodePr .miscRead rest

theorem RoundTrip.outPortGcIndex (v : Byte) : RoundTrip.Statement (.outPortGcIndex v) :=
  fun _ rest => decode_encodePw .gcIndex v rest

theorem RoundTrip.inPortGcIndex : RoundTrip.Statement .inPortGcIndex :=
  fun _ rest => decode_encodePr .gcIndex rest

theorem RoundTrip.outPortGcData (v : Byte) : RoundTrip.Statement (.outPortGcData v) :=
  fun _ rest => decode_encodePw .gcData v rest

theorem RoundTrip.inPortGcData : RoundTrip.Statement .inPortGcData :=
  fun _ rest => decode_encodePr .gcData rest

theorem RoundTrip.outPortCrtcIndex (v : Byte) : RoundTrip.Statement (.outPortCrtcIndex v) :=
  fun _ rest => decode_encodePw .crtcIndex v rest

theorem RoundTrip.inPortCrtcIndex : RoundTrip.Statement .inPortCrtcIndex :=
  fun _ rest => decode_encodePr .crtcIndex rest

theorem RoundTrip.outPortCrtcData (v : Byte) : RoundTrip.Statement (.outPortCrtcData v) :=
  fun _ rest => decode_encodePw .crtcData v rest

theorem RoundTrip.inPortCrtcData : RoundTrip.Statement .inPortCrtcData :=
  fun _ rest => decode_encodePr .crtcData rest

theorem RoundTrip.outPortStatus (v : Byte) : RoundTrip.Statement (.outPortStatus v) :=
  fun _ rest => decode_encodePw .status v rest

theorem RoundTrip.inPortStatus : RoundTrip.Statement .inPortStatus :=
  fun _ rest => decode_encodePr .status rest

theorem RoundTrip.writeSeqReset (v : Byte) : RoundTrip.Statement (.writeSeqReset v) :=
  fun _ rest => decode_encodeRowPw .seqData 0 v rest _ rfl

theorem RoundTrip.readSeqReset : RoundTrip.Statement .readSeqReset :=
  fun _ rest => decode_encodeRowPr .seqData 0 rest _ rfl

theorem RoundTrip.writeSeqClock (v : Byte) : RoundTrip.Statement (.writeSeqClock v) :=
  fun _ rest => decode_encodeRowPw .seqData 1 v rest _ rfl

theorem RoundTrip.readSeqClock : RoundTrip.Statement .readSeqClock :=
  fun _ rest => decode_encodeRowPr .seqData 1 rest _ rfl

theorem RoundTrip.writeSeqMapMask (v : Byte) : RoundTrip.Statement (.writeSeqMapMask v) :=
  fun _ rest => decode_encodeRowPw .seqData 2 v rest _ rfl

theorem RoundTrip.readSeqMapMask : RoundTrip.Statement .readSeqMapMask :=
  fun _ rest => decode_encodeRowPr .seqData 2 rest _ rfl

theorem RoundTrip.writeSeqCharMap (v : Byte) : RoundTrip.Statement (.writeSeqCharMap v) :=
  fun _ rest => decode_encodeRowPw .seqData 3 v rest _ rfl

theorem RoundTrip.readSeqCharMap : RoundTrip.Statement .readSeqCharMap :=
  fun _ rest => decode_encodeRowPr .seqData 3 rest _ rfl

theorem RoundTrip.writeSeqMem (v : Byte) : RoundTrip.Statement (.writeSeqMem v) :=
  fun _ rest => decode_encodeRowPw .seqData 4 v rest _ rfl

theorem RoundTrip.readSeqMem : RoundTrip.Statement .readSeqMem :=
  fun _ rest => decode_encodeRowPr .seqData 4 rest _ rfl

theorem RoundTrip.writeGcSetReset (v : Byte) : RoundTrip.Statement (.writeGcSetReset v) :=
  fun _ rest => decode_encodeRowPw .gcData 0 v rest _ rfl

theorem RoundTrip.readGcSetReset : RoundTrip.Statement .readGcSetReset :=
  fun _ rest => decode_encodeRowPr .gcData 0 rest _ rfl

theorem RoundTrip.writeGcEnableSetReset (v : Byte) : RoundTrip.Statement (.writeGcEnableSetReset v) :=
  fun _ rest => decode_encodeRowPw .gcData 1 v rest _ rfl

theorem RoundTrip.readGcEnableSetReset : RoundTrip.Statement .readGcEnableSetReset :=
  fun _ rest => decode_encodeRowPr .gcData 1 rest _ rfl

theorem RoundTrip.writeGcColorCompare (v : Byte) : RoundTrip.Statement (.writeGcColorCompare v) :=
  fun _ rest => decode_encodeRowPw .gcData 2 v rest _ rfl

theorem RoundTrip.readGcColorCompare : RoundTrip.Statement .readGcColorCompare :=
  fun _ rest => decode_encodeRowPr .gcData 2 rest _ rfl

theorem RoundTrip.writeGcRotate (v : Byte) : RoundTrip.Statement (.writeGcRotate v) :=
  fun _ rest => decode_encodeRowPw .gcData 3 v rest _ rfl

theorem RoundTrip.readGcRotate : RoundTrip.Statement .readGcRotate :=
  fun _ rest => decode_encodeRowPr .gcData 3 rest _ rfl

theorem RoundTrip.writeGcReadMap (v : Byte) : RoundTrip.Statement (.writeGcReadMap v) :=
  fun _ rest => decode_encodeRowPw .gcData 4 v rest _ rfl

theorem RoundTrip.readGcReadMap : RoundTrip.Statement .readGcReadMap :=
  fun _ rest => decode_encodeRowPr .gcData 4 rest _ rfl

theorem RoundTrip.writeGcMode (v : Byte) : RoundTrip.Statement (.writeGcMode v) :=
  fun _ rest => decode_encodeRowPw .gcData 5 v rest _ rfl

theorem RoundTrip.readGcMode : RoundTrip.Statement .readGcMode :=
  fun _ rest => decode_encodeRowPr .gcData 5 rest _ rfl

theorem RoundTrip.writeGcMisc (v : Byte) : RoundTrip.Statement (.writeGcMisc v) :=
  fun _ rest => decode_encodeRowPw .gcData 6 v rest _ rfl

theorem RoundTrip.readGcMisc : RoundTrip.Statement .readGcMisc :=
  fun _ rest => decode_encodeRowPr .gcData 6 rest _ rfl

theorem RoundTrip.writeGcDontCare (v : Byte) : RoundTrip.Statement (.writeGcDontCare v) :=
  fun _ rest => decode_encodeRowPw .gcData 7 v rest _ rfl

theorem RoundTrip.readGcDontCare : RoundTrip.Statement .readGcDontCare :=
  fun _ rest => decode_encodeRowPr .gcData 7 rest _ rfl

theorem RoundTrip.writeGcBitMask (v : Byte) : RoundTrip.Statement (.writeGcBitMask v) :=
  fun _ rest => decode_encodeRowPw .gcData 8 v rest _ rfl

theorem RoundTrip.readGcBitMask : RoundTrip.Statement .readGcBitMask :=
  fun _ rest => decode_encodeRowPr .gcData 8 rest _ rfl

theorem RoundTrip.writeCrtcHorzTotal (v : Byte) : RoundTrip.Statement (.writeCrtcHorzTotal v) :=
  fun _ rest => decode_encodeRowPw .crtcData 0 v rest _ rfl

theorem RoundTrip.readCrtcHorzTotal : RoundTrip.Statement .readCrtcHorzTotal :=
  fun _ rest => decode_encodeRowPr .crtcData 0 rest _ rfl

theorem RoundTrip.writeCrtcEndHorzDisp (v : Byte) : RoundTrip.Statement (.writeCrtcEndHorzDisp v) :=
  fun _ rest => decode_encodeRowPw .crtcData 1 v rest _ rfl

theorem RoundTrip.readCrtcEndHorzDisp : RoundTrip.Statement .readCrtcEndHorzDisp :=
  fun _ rest => decode_encodeRowPr .crtcData 1 rest _ rfl

theorem RoundTrip.writeCrtcStartHorzBlank (v : Byte) : RoundTrip.Statement (.writeCrtcStartHorzBlank v) :=
  fun _ rest => decode_encodeRowPw .crtcData 2 v rest _ rfl

theorem RoundTrip.readCrtcStartHorzBlank : RoundTrip.Statement .readCrtcStartHorzBlank :=
  fun _ rest => decode_encodeRowPr .crtcData 2 rest _ rfl

theorem RoundTrip.writeCrtcEndHorzBlank (v : Byte) : RoundTrip.Statement (.writeCrtcEndHorzBlank v) :=
  fun _ rest => decode_encodeRowPw .crtcData 3 v rest _ rfl

theorem RoundTrip.readCrtcEndHorzBlank : RoundTrip.Statement .readCrtcEndHorzBlank :=
  fun _ rest => decode_encodeRowPr .crtcData 3 rest _ rfl

theorem RoundTrip.writeCrtcStartHorzRetrace (v : Byte) : RoundTrip.Statement (.writeCrtcStartHorzRetrace v) :=
  fun _ rest => decode_encodeRowPw .crtcData 4 v rest _ rfl

theorem RoundTrip.readCrtcStartHorzRetrace : RoundTrip.Statement .readCrtcStartHorzRetrace :=
  fun _ rest => decode_encodeRowPr .crtcData 4 rest _ rfl

theorem RoundTrip.writeCrtcEndHorzRetrace (v : Byte) : RoundTrip.Statement (.writeCrtcEndHorzRetrace v) :=
  fun _ rest => decode_encodeRowPw .crtcData 5 v rest _ rfl

theorem RoundTrip.readCrtcEndHorzRetrace : RoundTrip.Statement .readCrtcEndHorzRetrace :=
  fun _ rest => decode_encodeRowPr .crtcData 5 rest _ rfl

theorem RoundTrip.writeCrtcVertTotal (v : Byte) : RoundTrip.Statement (.writeCrtcVertTotal v) :=
  fun _ rest => decode_encodeRowPw .crtcData 6 v rest _ rfl

theorem RoundTrip.readCrtcVertTotal : RoundTrip.Statement .readCrtcVertTotal :=
  fun _ rest => decode_encodeRowPr .crtcData 6 rest _ rfl

theorem RoundTrip.writeCrtcOverflow (v : Byte) : RoundTrip.Statement (.writeCrtcOverflow v) :=
  fun _ rest => decode_encodeRowPw .crtcData 7 v rest _ rfl

theorem RoundTrip.readCrtcOverflow : RoundTrip.Statement .readCrtcOverflow :=
  fun _ rest => decode_encodeRowPr .crtcData 7 rest _ rfl

theorem RoundTrip.writeCrtcPresetRowScan (v : Byte) : RoundTrip.Statement (.writeCrtcPresetRowScan v) :=
  fun _ rest => decode_encodeRowPw .crtcData 8 v rest _ rfl

theorem RoundTrip.readCrtcPresetRowScan : RoundTrip.Statement .readCrtcPresetRowScan :=
  fun _ rest => decode_encodeRowPr .crtcData 8 rest _ rfl

theorem RoundTrip.writeCrtcMaxScan (v : Byte) : RoundTrip.Statement (.writeCrtcMaxScan v) :=
  fun _ rest => decode_encodeRowPw .crtcData 9 v rest _ rfl

theorem RoundTrip.readCrtcMaxScan : RoundTrip.Statement .readCrtcMaxScan :=
  fun _ rest => decode_encodeRowPr .crtcData 9 rest _ rfl

theorem RoundTrip.writeCrtcCursorStart (v : Byte) : RoundTrip.Statement (.writeCrtcCursorStart v) :=
  fun _ rest => decode_encodeRowPw .crtcData 10 v rest _ rfl

theorem RoundTrip.readCrtcCursorStart : RoundTrip.Statement .readCrtcCursorStart :=
  fun _ rest => decode_encodeRowPr .crtcData 10 rest _ rfl

theorem RoundTrip.writeCrtcCursorEnd (v : Byte) : RoundTrip.Statement (.writeCrtcCursorEnd v) :=
  fun _ rest => decode_encodeRowPw .crtcData 11 v rest _ rfl

theorem RoundTrip.readCrtcCursorEnd : RoundTrip.Statement .readCrtcCursorEnd :=
  fun _ rest => decode_encodeRowPr .crtcData 11 rest _ rfl

theorem RoundTrip.writeCrtcStartHigh (v : Byte) : RoundTrip.Statement (.writeCrtcStartHigh v) :=
  fun _ rest => decode_encodeRowPw .crtcData 12 v rest _ rfl

theorem RoundTrip.readCrtcStartHigh : RoundTrip.Statement .readCrtcStartHigh :=
  fun _ rest => decode_encodeRowPr .crtcData 12 rest _ rfl

theorem RoundTrip.writeCrtcStartLow (v : Byte) : RoundTrip.Statement (.writeCrtcStartLow v) :=
  fun _ rest => decode_encodeRowPw .crtcData 13 v rest _ rfl

theorem RoundTrip.readCrtcStartLow : RoundTrip.Statement .readCrtcStartLow :=
  fun _ rest => decode_encodeRowPr .crtcData 13 rest _ rfl

theorem RoundTrip.writeCrtcCursorLocHigh (v : Byte) : RoundTrip.Statement (.writeCrtcCursorLocHigh v) :=
  fun _ rest => decode_encodeRowPw .crtcData 14 v rest _ rfl

theorem RoundTrip.readCrtcCursorLocHigh : RoundTrip.Statement .readCrtcCursorLocHigh :=
  fun _ rest => decode_encodeRowPr .crtcData 14 rest _ rfl

theorem RoundTrip.writeCrtcCursorLocLow (v : Byte) : RoundTrip.Statement (.writeCrtcCursorLocLow v) :=
  fun _ rest => decode_encodeRowPw .crtcData 15 v rest _ rfl

theorem RoundTrip.readCrtcCursorLocLow : RoundTrip.Statement .readCrtcCursorLocLow :=
  fun _ rest => decode_encodeRowPr .crtcData 15 rest _ rfl

theorem RoundTrip.writeCrtcVertRetraceStart (v : Byte) : RoundTrip.Statement (.writeCrtcVertRetraceStart v) :=
  fun _ rest => decode_encodeRowPw .crtcData 16 v rest _ rfl

theorem RoundTrip.readCrtcVertRetraceStart : RoundTrip.Statement .readCrtcVertRetraceStart :=
  fun _ rest => decode_encodeRowPr .crtcData 16 rest _ rfl

theorem RoundTrip.writeCrtcVertRetraceEnd (v : Byte) : RoundTrip.Statement (.writeCrtcVertRetraceEnd v) :=
  fun _ rest => decode_encodeRowPw .crtcData 17 v rest _ rfl

theorem RoundTrip.readCrtcVertRetraceEnd : RoundTrip.Statement .readCrtcVertRetraceEnd :=
  fun _ rest => decode_encodeRowPr .crtcData 17 rest _ rfl

theorem RoundTrip.writeCrtcVertDispEnd (v : Byte) : RoundTrip.Statement (.writeCrtcVertDispEnd v) :=
  fun _ rest => decode_encodeRowPw .crtcData 18 v rest _ rfl

theorem RoundTrip.readCrtcVertDispEnd : RoundTrip.Statement .readCrtcVertDispEnd :=
  fun _ rest => decode_encodeRowPr .crtcData 18 rest _ rfl

theorem RoundTrip.writeCrtcOffset (v : Byte) : RoundTrip.Statement (.writeCrtcOffset v) :=
  fun _ rest => decode_encodeRowPw .crtcData 19 v rest _ rfl

theorem RoundTrip.readCrtcOffset : RoundTrip.Statement .readCrtcOffset :=
  fun _ rest => decode_encodeRowPr .crtcData 19 rest _ rfl

theorem RoundTrip.writeCrtcUnderline (v : Byte) : RoundTrip.Statement (.writeCrtcUnderline v) :=
  fun _ rest => decode_encodeRowPw .crtcData 20 v rest _ rfl

theorem RoundTrip.readCrtcUnderline : RoundTrip.Statement .readCrtcUnderline :=
  fun _ rest => decode_encodeRowPr .crtcData 20 rest _ rfl

theorem RoundTrip.writeCrtcStartVertBlank (v : Byte) : RoundTrip.Statement (.writeCrtcStartVertBlank v) :=
  fun _ rest => decode_encodeRowPw .crtcData 21 v rest _ rfl

theorem RoundTrip.readCrtcStartVertBlank : RoundTrip.Statement .readCrtcStartVertBlank :=
  fun _ rest => decode_encodeRowPr .crtcData 21 rest _ rfl

theorem RoundTrip.writeCrtcEndVertBlank (v : Byte) : RoundTrip.Statement (.writeCrtcEndVertBlank v) :=
  fun _ rest => decode_encodeRowPw .crtcData 22 v rest _ rfl

theorem RoundTrip.readCrtcEndVertBlank : RoundTrip.Statement .readCrtcEndVertBlank :=
  fun _ rest => decode_encodeRowPr .crtcData 22 rest _ rfl

theorem RoundTrip.writeCrtcMode (v : Byte) : RoundTrip.Statement (.writeCrtcMode v) :=
  fun _ rest => decode_encodeRowPw .crtcData 23 v rest _ rfl

theorem RoundTrip.readCrtcMode : RoundTrip.Statement .readCrtcMode :=
  fun _ rest => decode_encodeRowPr .crtcData 23 rest _ rfl

theorem RoundTrip.writeCrtcLineCompare (v : Byte) : RoundTrip.Statement (.writeCrtcLineCompare v) :=
  fun _ rest => decode_encodeRowPw .crtcData 24 v rest _ rfl

theorem RoundTrip.readCrtcLineCompare : RoundTrip.Statement .readCrtcLineCompare :=
  fun _ rest => decode_encodeRowPr .crtcData 24 rest _ rfl

theorem RoundTrip.writeAcPal0 (v : Byte) : RoundTrip.Statement (.writeAcPal0 v) :=
  fun _ rest => decode_encodeRowPw .acIndexData 0 v rest _ rfl

theorem RoundTrip.readAcPal0 : RoundTrip.Statement .readAcPal0 :=
  fun _ rest => decode_encodeRowPr .acRead 0 rest _ rfl

theorem RoundTrip.writeAcPal1 (v : Byte) : RoundTrip.Statement (.writeAcPal1 v) :=
  fun _ rest => decode_encodeRowPw .acIndexData 1 v rest _ rfl

theorem RoundTrip.readAcPal1 : RoundTrip.Statement .readAcPal1 :=
  fun _ rest => decode_encodeRowPr .acRead 1 rest _ rfl

theorem RoundTrip.writeAcPal2 (v : Byte) : RoundTrip.Statement (.writeAcPal2 v) :=
  fun _ rest => decode_encodeRowPw .acIndexData 2 v rest _ rfl

theorem RoundTrip.readAcPal2 : RoundTrip.Statement .readAcPal2 :=
  fun _ rest => decode_encodeRowPr .acRead 2 rest _ rfl

theorem RoundTrip.writeAcPal3 (v : Byte) : RoundTrip.Statement (.writeAcPal3 v) :=
  fun _ rest => decode_encodeRowPw .acIndexData 3 v rest _ rfl

theorem RoundTrip.readAcPal3 : RoundTrip.Statement .readAcPal3 :=
  fun _ rest => decode_encodeRowPr .acRead 3 rest _ rfl

theorem RoundTrip.writeAcPal4 (v : Byte) : RoundTrip.Statement (.writeAcPal4 v) :=
  fun _ rest => decode_encodeRowPw .acIndexData 4 v rest _ rfl

theorem RoundTrip.readAcPal4 : RoundTrip.Statement .readAcPal4 :=
  fun _ rest => decode_encodeRowPr .acRead 4 rest _ rfl

theorem RoundTrip.writeAcPal5 (v : Byte) : RoundTrip.Statement (.writeAcPal5 v) :=
  fun _ rest => decode_encodeRowPw .acIndexData 5 v rest _ rfl

theorem RoundTrip.readAcPal5 : RoundTrip.Statement .readAcPal5 :=
  fun _ rest => decode_encodeRowPr .acRead 5 rest _ rfl

theorem RoundTrip.writeAcPal6 (v : Byte) : RoundTrip.Statement (.writeAcPal6 v) :=
  fun _ rest => decode_encodeRowPw .acIndexData 6 v rest _ rfl

theorem RoundTrip.readAcPal6 : RoundTrip.Statement .readAcPal6 :=
  fun _ rest => decode_encodeRowPr .acRead 6 rest _ rfl

theorem RoundTrip.writeAcPal7 (v : Byte) : RoundTrip.Statement (.writeAcPal7 v) :=
  fun _ rest => decode_encodeRowPw .acIndexData 7 v rest _ rfl

theorem RoundTrip.readAcPal7 : RoundTrip.Statement .readAcPal7 :=
  fun _ rest => decode_encodeRowPr .acRead 7 rest _ rfl

theorem RoundTrip.writeAcPal8 (v : Byte) : RoundTrip.Statement (.writeAcPal8 v) :=
  fun _ rest => decode_encodeRowPw .acIndexData 8 v rest _ rfl

theorem RoundTrip.readAcPal8 : RoundTrip.Statement .readAcPal8 :=
  fun _ rest => decode_encodeRowPr .acRead 8 rest _ rfl

theorem RoundTrip.writeAcPal9 (v : Byte) : RoundTrip.Statement (.writeAcPal9 v) :=
  fun _ rest => decode_encodeRowPw .acIndexData 9 v rest _ rfl

theorem RoundTrip.readAcPal9 : RoundTrip.Statement .readAcPal9 :=
  fun _ rest => decode_encodeRowPr .acRead 9 rest _ rfl

theorem RoundTrip.writeAcPal10 (v : Byte) : RoundTrip.Statement (.writeAcPal10 v) :=
  fun _ rest => decode_encodeRowPw .acIndexData 10 v rest _ rfl

theorem RoundTrip.readAcPal10 : RoundTrip.Statement .readAcPal10 :=
  fun _ rest => decode_encodeRowPr .acRead 10 rest _ rfl

theorem RoundTrip.writeAcPal11 (v : Byte) : RoundTrip.Statement (.writeAcPal11 v) :=
  fun _ rest => decode_encodeRowPw .acIndexData 11 v rest _ rfl

theorem RoundTrip.readAcPal11 : RoundTrip.Statement .readAcPal11 :=
  fun _ rest => decode_encodeRowPr .acRead 11 rest _ rfl

theorem RoundTrip.writeAcPal12 (v : Byte) : RoundTrip.Statement (.writeAcPal12 v) :=
  fun _ rest => decode_encodeRowPw .acIndexData 12 v rest _ rfl

theorem RoundTrip.readAcPal12 : RoundTrip.Statement .readAcPal12 :=
  fun _ rest => decode_encodeRowPr .acRead 12 rest _ rfl

theorem RoundTrip.writeAcPal13 (v : Byte) : RoundTrip.Statement (.writeAcPal13 v) :=
  fun _ rest => decode_encodeRowPw .acIndexData 13 v rest _ rfl

theorem RoundTrip.readAcPal13 : RoundTrip.Statement .readAcPal13 :=
  fun _ rest => decode_encodeRowPr .acRead 13 rest _ rfl

theorem RoundTrip.writeAcPal14 (v : Byte) : RoundTrip.Statement (.writeAcPal14 v) :=
  fun _ rest => decode_encodeRowPw .acIndexData 14 v rest _ rfl

theorem RoundTrip.readAcPal14 : RoundTrip.Statement .readAcPal14 :=
  fun _ rest => decode_encodeRowPr .acRead 14 rest _ rfl

theorem RoundTrip.writeAcPal15 (v : Byte) : RoundTrip.Statement (.writeAcPal15 v) :=
  fun _ rest => decode_encodeRowPw .acIndexData 15 v rest _ rfl

theorem RoundTrip.readAcPal15 : RoundTrip.Statement .readAcPal15 :=
  fun _ rest => decode_encodeRowPr .acRead 15 rest _ rfl

theorem RoundTrip.writeAcMode (v : Byte) : RoundTrip.Statement (.writeAcMode v) :=
  fun _ rest => decode_encodeRowPw .acIndexData 16 v rest _ rfl

theorem RoundTrip.readAcMode : RoundTrip.Statement .readAcMode :=
  fun _ rest => decode_encodeRowPr .acRead 16 rest _ rfl

theorem RoundTrip.writeAcOverscan (v : Byte) : RoundTrip.Statement (.writeAcOverscan v) :=
  fun _ rest => decode_encodeRowPw .acIndexData 17 v rest _ rfl

theorem RoundTrip.readAcOverscan : RoundTrip.Statement .readAcOverscan :=
  fun _ rest => decode_encodeRowPr .acRead 17 rest _ rfl

theorem RoundTrip.writeAcPlaneEnable (v : Byte) : RoundTrip.Statement (.writeAcPlaneEnable v) :=
  fun _ rest => decode_encodeRowPw .acIndexData 18 v rest _ rfl

theorem RoundTrip.readAcPlaneEnable : RoundTrip.Statement .readAcPlaneEnable :=
  fun _ rest => decode_encodeRowPr .acRead 18 rest _ rfl

theorem RoundTrip.writeAcPanning (v : Byte) : RoundTrip.Statement (.writeAcPanning v) :=
  fun _ rest => decode_encodeRowPw .acIndexData 19 v rest _ rfl

theorem RoundTrip.readAcPanning : RoundTrip.Statement .readAcPanning :=
  fun _ rest => decode_encodeRowPr .acRead 19 rest _ rfl

theorem RoundTrip.writeAcColorSelect (v : Byte) : RoundTrip.Statement (.writeAcColorSelect v) :=
  fun _ rest => decode_encodeRowPw .acIndexData 20 v rest _ rfl

theorem RoundTrip.readAcColorSelect : RoundTrip.Statement .readAcColorSelect :=
  fun _ rest => decode_encodeRowPr .acRead 20 rest _ rfl

theorem RoundTrip.memw (a : Addr) (bytes : List Byte) : RoundTrip.Statement (.memw a bytes) := by
  intro _ rest
  rw [encode, decode_encodeCall 0x07 .mw _ rest rfl]
  simp [decodeOperands, noPort, encodeAddr, decodeBytes_encodeBytes, addrOfBytes_encodeAddr]

theorem RoundTrip.memr (a : Addr) (length : Nat) (buf : List Byte) : RoundTrip.Statement (.memr a length buf) := by
  intro h rest
  have hl : buf.length = length := by simpa [Instr.wellFormed] using h
  rw [encode, decode_encodeCall 0x09 .mr _ rest rfl]
  simp [decodeOperands, noPort, encodeAddr, decodeBytes_encodeBytes, addrOfBytes_encodeAddr, hl]

theorem RoundTrip.refresh : RoundTrip.Statement .refresh :=
  fun _ _ => rfl

theorem RoundTrip.hretrace : RoundTrip.Statement .hretrace :=
  fun _ _ => rfl

theorem RoundTrip.vretrace : RoundTrip.Statement .vretrace :=
  fun _ _ => rfl

theorem RoundTrip.res : RoundTrip.Statement .res :=
  fun _ _ => rfl

theorem RoundTrip.istext : RoundTrip.Statement .istext :=
  fun _ _ => rfl

theorem RoundTrip.takedirty : RoundTrip.Statement .takedirty :=
  fun _ _ => rfl

theorem RoundTrip.surf (element : Option (Nat × Nat)) : RoundTrip.Statement (.surf element) := by
  intro _ rest
  rcases element with _ | ⟨row, col⟩
  · rw [encode, decode_encodeCall 0x17 .surf _ rest rfl]
    simp only [decodeOperands, noPort, if_true, List.singleton_append, decodeElement_none]
  · rw [encode, decode_encodeCall 0x17 .surf _ rest rfl]
    simp only [decodeOperands, noPort, if_true, decodeElement_some]

theorem RoundTrip.cursor : RoundTrip.Statement .cursor :=
  fun _ _ => rfl

theorem RoundTrip.seed (x : Seed) : RoundTrip.Statement (.seed x) := by
  intro _ rest
  rw [encode, decode_encodeCall 0x19 .seed _ rest rfl]
  simp only [decodeOperands, noPort, if_true, decodeSeed_encodeSeed]

end Sys2Proof.Laws
end

