-- ==== Sys2Proof/Laws/Rows.lean ====
section
/-! SUPPORT. The 120 register rows in eight lemmas: what `exec` does with the row of register `n` of a group. -/

namespace Sys2Proof.Laws

open Sys2Proof Sys2Proof.Machine

theorem exec_seqWriteRow (n : Fin Config.seqCount) (v : Byte) (s : State) :
    exec (seqWriteRow n v) s = complete s (s.dev.seqRowWrite n v) .none := by fin_cases n <;> rfl

theorem exec_gcWriteRow (n : Fin Config.gcCount) (v : Byte) (s : State) :
    exec (gcWriteRow n v) s = complete s (s.dev.gcRowWrite n v) .none := by fin_cases n <;> rfl

theorem exec_crtcWriteRow (n : Fin Config.crtcCount) (v : Byte) (s : State) :
    exec (crtcWriteRow n v) s = complete s (s.dev.crtcRowWrite n v) .none := by fin_cases n <;> rfl

theorem exec_acWriteRow (n : Fin Config.acCount) (v : Byte) (s : State) :
    exec (acWriteRow n v) s = complete s (s.dev.acRowWrite n v) .none := by fin_cases n <;> rfl

theorem exec_seqReadRow (n : Fin Config.seqCount) (s : State) :
    exec (seqReadRow n) s = complete s s.dev (.byte (readRow s.dev.seq s.dev.seqIndex n)) := by fin_cases n <;> rfl

theorem exec_gcReadRow (n : Fin Config.gcCount) (s : State) :
    exec (gcReadRow n) s = complete s s.dev (.byte (readRow s.dev.gc s.dev.gcIndex n)) := by fin_cases n <;> rfl

theorem exec_crtcReadRow (n : Fin Config.crtcCount) (s : State) :
    exec (crtcReadRow n) s = complete s s.dev (.byte (readRow s.dev.crtc s.dev.crtcIndex n)) := by fin_cases n <;> rfl

theorem exec_acReadRow (n : Fin Config.acCount) (s : State) :
    exec (acReadRow n) s = complete s s.dev (.byte (readRow s.dev.ac s.dev.acIndex n)) := by fin_cases n <;> rfl

end Sys2Proof.Laws
end

