-- ==== Sys2Proof/Tests/Slice0.lean ====
section
/-! SUPPORT. Tests: the decoding of every constructor from bytes written out, the checks of WellFormed, single operations against the
values of spec/95_test_vectors.md (the vector is named), and a witness for the hypotheses of every statement that has some. -/

namespace Sys2Proof.Tests

open Sys2Proof Sys2Proof.Machine

/-! ### Decoding -/

/-- Each byte sequence decodes to the operation beside it, with nothing left. -/
def DecodesAll (table : List (List Byte × Instr)) : Prop := ∀ x ∈ table, decode x.1 = .ok (x.2, [])

/-- The 14 ports of R9 written (R121). -/
theorem test_decode_port_writes : DecodesAll [
    ([0xC0, 0x03, 0x00, 0x5A], .outPortAcIndexData 0x5A), ([0xC1, 0x03, 0x00, 0x5A], .outPortAcRead 0x5A),
    ([0xC2, 0x03, 0x00, 0x5A], .outPortMiscWrite 0x5A), ([0xC4, 0x03, 0x00, 0x5A], .outPortSeqIndex 0x5A),
    ([0xC5, 0x03, 0x00, 0x5A], .outPortSeqData 0x5A), ([0xC7, 0x03, 0x00, 0x5A], .outPortDacReadIndex 0x5A),
    ([0xC8, 0x03, 0x00, 0x5A], .outPortDacWriteIndex 0x5A), ([0xC9, 0x03, 0x00, 0x5A], .outPortDacData 0x5A),
    ([0xCC, 0x03, 0x00, 0x5A], .outPortMiscRead 0x5A), ([0xCE, 0x03, 0x00, 0x5A], .outPortGcIndex 0x5A),
    ([0xCF, 0x03, 0x00, 0x5A], .outPortGcData 0x5A), ([0xD4, 0x03, 0x00, 0x5A], .outPortCrtcIndex 0x5A),
    ([0xD5, 0x03, 0x00, 0x5A], .outPortCrtcData 0x5A), ([0xDA, 0x03, 0x00, 0x5A], .outPortStatus 0x5A)] := by
  unfold DecodesAll
  decide

/-- The 14 ports of R9 read (R121). -/
theorem test_decode_port_reads : DecodesAll [
    ([0xC0, 0x03, 0x03], .inPortAcIndexData), ([0xC1, 0x03, 0x03], .inPortAcRead), ([0xC2, 0x03, 0x03], .inPortMiscWrite),
    ([0xC4, 0x03, 0x03], .inPortSeqIndex), ([0xC5, 0x03, 0x03], .inPortSeqData), ([0xC7, 0x03, 0x03], .inPortDacReadIndex),
    ([0xC8, 0x03, 0x03], .inPortDacWriteIndex), ([0xC9, 0x03, 0x03], .inPortDacData), ([0xCC, 0x03, 0x03], .inPortMiscRead),
    ([0xCE, 0x03, 0x03], .inPortGcIndex), ([0xCF, 0x03, 0x03], .inPortGcData), ([0xD4, 0x03, 0x03], .inPortCrtcIndex),
    ([0xD5, 0x03, 0x03], .inPortCrtcData), ([0xDA, 0x03, 0x03], .inPortStatus)] := by
  unfold DecodesAll
  decide

/-- SEQ registers 0 to 4, written at PORT_SEQ_DATA (R133). -/
theorem test_decode_seq_rows_written : DecodesAll [
    ([0xC5, 0x03, 0x05, 0x00, 0xA5], .writeSeqReset 0xA5), ([0xC5, 0x03, 0x05, 0x01, 0xA5], .writeSeqClock 0xA5),
    ([0xC5, 0x03, 0x05, 0x02, 0xA5], .writeSeqMapMask 0xA5), ([0xC5, 0x03, 0x05, 0x03, 0xA5], .writeSeqCharMap 0xA5),
    ([0xC5, 0x03, 0x05, 0x04, 0xA5], .writeSeqMem 0xA5)] := by
  unfold DecodesAll
  decide

/-- SEQ registers 0 to 4, read at PORT_SEQ_DATA (R133). -/
theorem test_decode_seq_rows_read : DecodesAll [
    ([0xC5, 0x03, 0x06, 0x00], .readSeqReset), ([0xC5, 0x03, 0x06, 0x01], .readSeqClock),
    ([0xC5, 0x03, 0x06, 0x02], .readSeqMapMask), ([0xC5, 0x03, 0x06, 0x03], .readSeqCharMap),
    ([0xC5, 0x03, 0x06, 0x04], .readSeqMem)] := by
  unfold DecodesAll
  decide

/-- GC registers 0 to 8, written at PORT_GC_DATA (R133). -/
theorem test_decode_gc_rows_written : DecodesAll [
    ([0xCF, 0x03, 0x05, 0x00, 0xA5], .writeGcSetReset 0xA5), ([0xCF, 0x03, 0x05, 0x01, 0xA5], .writeGcEnableSetReset 0xA5),
    ([0xCF, 0x03, 0x05, 0x02, 0xA5], .writeGcColorCompare 0xA5), ([0xCF, 0x03, 0x05, 0x03, 0xA5], .writeGcRotate 0xA5),
    ([0xCF, 0x03, 0x05, 0x04, 0xA5], .writeGcReadMap 0xA5), ([0xCF, 0x03, 0x05, 0x05, 0xA5], .writeGcMode 0xA5),
    ([0xCF, 0x03, 0x05, 0x06, 0xA5], .writeGcMisc 0xA5), ([0xCF, 0x03, 0x05, 0x07, 0xA5], .writeGcDontCare 0xA5),
    ([0xCF, 0x03, 0x05, 0x08, 0xA5], .writeGcBitMask 0xA5)] := by
  unfold DecodesAll
  decide

/-- GC registers 0 to 8, read at PORT_GC_DATA (R133). -/
theorem test_decode_gc_rows_read : DecodesAll [
    ([0xCF, 0x03, 0x06, 0x00], .readGcSetReset), ([0xCF, 0x03, 0x06, 0x01], .readGcEnableSetReset),
    ([0xCF, 0x03, 0x06, 0x02], .readGcColorCompare), ([0xCF, 0x03, 0x06, 0x03], .readGcRotate),
    ([0xCF, 0x03, 0x06, 0x04], .readGcReadMap), ([0xCF, 0x03, 0x06, 0x05], .readGcMode), ([0xCF, 0x03, 0x06, 0x06], .readGcMisc),
    ([0xCF, 0x03, 0x06, 0x07], .readGcDontCare), ([0xCF, 0x03, 0x06, 0x08], .readGcBitMask)] := by
  unfold DecodesAll
  decide

/-- CRTC registers 0 to 0x18, written at PORT_CRTC_DATA (R133). -/
theorem test_decode_crtc_rows_written : DecodesAll [
    ([0xD5, 0x03, 0x05, 0x00, 0xA5], .writeCrtcHorzTotal 0xA5), ([0xD5, 0x03, 0x05, 0x01, 0xA5], .writeCrtcEndHorzDisp 0xA5),
    ([0xD5, 0x03, 0x05, 0x02, 0xA5], .writeCrtcStartHorzBlank 0xA5),
    ([0xD5, 0x03, 0x05, 0x03, 0xA5], .writeCrtcEndHorzBlank 0xA5),
    ([0xD5, 0x03, 0x05, 0x04, 0xA5], .writeCrtcStartHorzRetrace 0xA5),
    ([0xD5, 0x03, 0x05, 0x05, 0xA5], .writeCrtcEndHorzRetrace 0xA5), ([0xD5, 0x03, 0x05, 0x06, 0xA5], .writeCrtcVertTotal 0xA5),
    ([0xD5, 0x03, 0x05, 0x07, 0xA5], .writeCrtcOverflow 0xA5), ([0xD5, 0x03, 0x05, 0x08, 0xA5], .writeCrtcPresetRowScan 0xA5),
    ([0xD5, 0x03, 0x05, 0x09, 0xA5], .writeCrtcMaxScan 0xA5), ([0xD5, 0x03, 0x05, 0x0A, 0xA5], .writeCrtcCursorStart 0xA5),
    ([0xD5, 0x03, 0x05, 0x0B, 0xA5], .writeCrtcCursorEnd 0xA5), ([0xD5, 0x03, 0x05, 0x0C, 0xA5], .writeCrtcStartHigh 0xA5),
    ([0xD5, 0x03, 0x05, 0x0D, 0xA5], .writeCrtcStartLow 0xA5), ([0xD5, 0x03, 0x05, 0x0E, 0xA5], .writeCrtcCursorLocHigh 0xA5),
    ([0xD5, 0x03, 0x05, 0x0F, 0xA5], .writeCrtcCursorLocLow 0xA5),
    ([0xD5, 0x03, 0x05, 0x10, 0xA5], .writeCrtcVertRetraceStart 0xA5),
    ([0xD5, 0x03, 0x05, 0x11, 0xA5], .writeCrtcVertRetraceEnd 0xA5),
    ([0xD5, 0x03, 0x05, 0x12, 0xA5], .writeCrtcVertDispEnd 0xA5), ([0xD5, 0x03, 0x05, 0x13, 0xA5], .writeCrtcOffset 0xA5),
    ([0xD5, 0x03, 0x05, 0x14, 0xA5], .writeCrtcUnderline 0xA5), ([0xD5, 0x03, 0x05, 0x15, 0xA5], .writeCrtcStartVertBlank 0xA5),
    ([0xD5, 0x03, 0x05, 0x16, 0xA5], .writeCrtcEndVertBlank 0xA5), ([0xD5, 0x03, 0x05, 0x17, 0xA5], .writeCrtcMode 0xA5),
    ([0xD5, 0x03, 0x05, 0x18, 0xA5], .writeCrtcLineCompare 0xA5)] := by
  unfold DecodesAll
  decide

/-- CRTC registers 0 to 0x18, read at PORT_CRTC_DATA (R133). -/
theorem test_decode_crtc_rows_read : DecodesAll [
    ([0xD5, 0x03, 0x06, 0x00], .readCrtcHorzTotal), ([0xD5, 0x03, 0x06, 0x01], .readCrtcEndHorzDisp),
    ([0xD5, 0x03, 0x06, 0x02], .readCrtcStartHorzBlank), ([0xD5, 0x03, 0x06, 0x03], .readCrtcEndHorzBlank),
    ([0xD5, 0x03, 0x06, 0x04], .readCrtcStartHorzRetrace), ([0xD5, 0x03, 0x06, 0x05], .readCrtcEndHorzRetrace),
    ([0xD5, 0x03, 0x06, 0x06], .readCrtcVertTotal), ([0xD5, 0x03, 0x06, 0x07], .readCrtcOverflow),
    ([0xD5, 0x03, 0x06, 0x08], .readCrtcPresetRowScan), ([0xD5, 0x03, 0x06, 0x09], .readCrtcMaxScan),
    ([0xD5, 0x03, 0x06, 0x0A], .readCrtcCursorStart), ([0xD5, 0x03, 0x06, 0x0B], .readCrtcCursorEnd),
    ([0xD5, 0x03, 0x06, 0x0C], .readCrtcStartHigh), ([0xD5, 0x03, 0x06, 0x0D], .readCrtcStartLow),
    ([0xD5, 0x03, 0x06, 0x0E], .readCrtcCursorLocHigh), ([0xD5, 0x03, 0x06, 0x0F], .readCrtcCursorLocLow),
    ([0xD5, 0x03, 0x06, 0x10], .readCrtcVertRetraceStart), ([0xD5, 0x03, 0x06, 0x11], .readCrtcVertRetraceEnd),
    ([0xD5, 0x03, 0x06, 0x12], .readCrtcVertDispEnd), ([0xD5, 0x03, 0x06, 0x13], .readCrtcOffset),
    ([0xD5, 0x03, 0x06, 0x14], .readCrtcUnderline), ([0xD5, 0x03, 0x06, 0x15], .readCrtcStartVertBlank),
    ([0xD5, 0x03, 0x06, 0x16], .readCrtcEndVertBlank), ([0xD5, 0x03, 0x06, 0x17], .readCrtcMode),
    ([0xD5, 0x03, 0x06, 0x18], .readCrtcLineCompare)] := by
  unfold DecodesAll
  decide

/-- AC registers 0 to 0x14, written at PORT_AC_INDEX_DATA (R133). -/
theorem test_decode_ac_rows_written : DecodesAll [
    ([0xC0, 0x03, 0x05, 0x00, 0xA5], .writeAcPal0 0xA5), ([0xC0, 0x03, 0x05, 0x01, 0xA5], .writeAcPal1 0xA5),
    ([0xC0, 0x03, 0x05, 0x02, 0xA5], .writeAcPal2 0xA5), ([0xC0, 0x03, 0x05, 0x03, 0xA5], .writeAcPal3 0xA5),
    ([0xC0, 0x03, 0x05, 0x04, 0xA5], .writeAcPal4 0xA5), ([0xC0, 0x03, 0x05, 0x05, 0xA5], .writeAcPal5 0xA5),
    ([0xC0, 0x03, 0x05, 0x06, 0xA5], .writeAcPal6 0xA5), ([0xC0, 0x03, 0x05, 0x07, 0xA5], .writeAcPal7 0xA5),
    ([0xC0, 0x03, 0x05, 0x08, 0xA5], .writeAcPal8 0xA5), ([0xC0, 0x03, 0x05, 0x09, 0xA5], .writeAcPal9 0xA5),
    ([0xC0, 0x03, 0x05, 0x0A, 0xA5], .writeAcPal10 0xA5), ([0xC0, 0x03, 0x05, 0x0B, 0xA5], .writeAcPal11 0xA5),
    ([0xC0, 0x03, 0x05, 0x0C, 0xA5], .writeAcPal12 0xA5), ([0xC0, 0x03, 0x05, 0x0D, 0xA5], .writeAcPal13 0xA5),
    ([0xC0, 0x03, 0x05, 0x0E, 0xA5], .writeAcPal14 0xA5), ([0xC0, 0x03, 0x05, 0x0F, 0xA5], .writeAcPal15 0xA5),
    ([0xC0, 0x03, 0x05, 0x10, 0xA5], .writeAcMode 0xA5), ([0xC0, 0x03, 0x05, 0x11, 0xA5], .writeAcOverscan 0xA5),
    ([0xC0, 0x03, 0x05, 0x12, 0xA5], .writeAcPlaneEnable 0xA5), ([0xC0, 0x03, 0x05, 0x13, 0xA5], .writeAcPanning 0xA5),
    ([0xC0, 0x03, 0x05, 0x14, 0xA5], .writeAcColorSelect 0xA5)] := by
  unfold DecodesAll
  decide

/-- AC registers 0 to 0x14, read at PORT_AC_READ (R133). -/
theorem test_decode_ac_rows_read : DecodesAll [
    ([0xC1, 0x03, 0x06, 0x00], .readAcPal0), ([0xC1, 0x03, 0x06, 0x01], .readAcPal1), ([0xC1, 0x03, 0x06, 0x02], .readAcPal2),
    ([0xC1, 0x03, 0x06, 0x03], .readAcPal3), ([0xC1, 0x03, 0x06, 0x04], .readAcPal4), ([0xC1, 0x03, 0x06, 0x05], .readAcPal5),
    ([0xC1, 0x03, 0x06, 0x06], .readAcPal6), ([0xC1, 0x03, 0x06, 0x07], .readAcPal7), ([0xC1, 0x03, 0x06, 0x08], .readAcPal8),
    ([0xC1, 0x03, 0x06, 0x09], .readAcPal9), ([0xC1, 0x03, 0x06, 0x0A], .readAcPal10), ([0xC1, 0x03, 0x06, 0x0B], .readAcPal11),
    ([0xC1, 0x03, 0x06, 0x0C], .readAcPal12), ([0xC1, 0x03, 0x06, 0x0D], .readAcPal13), ([0xC1, 0x03, 0x06, 0x0E], .readAcPal14),
    ([0xC1, 0x03, 0x06, 0x0F], .readAcPal15), ([0xC1, 0x03, 0x06, 0x10], .readAcMode),
    ([0xC1, 0x03, 0x06, 0x11], .readAcOverscan), ([0xC1, 0x03, 0x06, 0x12], .readAcPlaneEnable),
    ([0xC1, 0x03, 0x06, 0x13], .readAcPanning), ([0xC1, 0x03, 0x06, 0x14], .readAcColorSelect)] := by
  unfold DecodesAll
  decide

/-- The calls without operands, and SURF of the whole surface (R120 format CALL). -/
theorem test_decode_calls : DecodesAll [
    ([0x00, 0x00, 0x11], .refresh), ([0x00, 0x00, 0x12], .hretrace), ([0x00, 0x00, 0x13], .vretrace), ([0x00, 0x00, 0x14], .res),
    ([0x00, 0x00, 0x15], .istext), ([0x00, 0x00, 0x16], .takedirty), ([0x00, 0x00, 0x17, 0x00], .surf none),
    ([0x00, 0x00, 0x18], .cursor)] := by
  unfold DecodesAll
  decide

/-- The formats MW and MR, and SURF of row 479 = 0x1DF, column 2. -/
theorem test_decode_memory_and_element : DecodesAll [
    ([0x00, 0x00, 0x07, 0x00, 0x80, 0x0B, 0x00, 0x01, 0x41, 0x01, 0x07, 0x00], .memw 0xB8000 [0x41, 0x07]),
    ([0x00, 0x00, 0x09, 0xFF, 0xFF, 0x0A, 0x00, 0x01, 0xEE, 0x01, 0xEE, 0x00], .memr 0xAFFFF 2 [0xEE, 0xEE]),
    ([0x00, 0x00, 0x17, 0x01, 0x01, 0xDF, 0x01, 0x01, 0x00, 0x01, 0x02, 0x00], .surf (some (479, 2)))] := by
  unfold DecodesAll
  decide

/-- A seed is R396's tuple in its written order: misc, 5 SEQ, 9 GC, 25 CRTC, 21 AC bytes. -/
theorem test_decode_seed :
    decode ([0x00, 0x00, 0x19, 0xE3] ++ [0x03, 0x01, 0x0F, 0x00, 0x06] ++
      [0x00, 0x00, 0x00, 0x00, 0x00, 0x00, 0x05, 0x0F, 0xFF] ++
      [0x5F, 0x4F, 0x50, 0x82, 0x54, 0x80, 0x0B, 0x3E, 0x00, 0x40, 0x00, 0x00, 0x00] ++
      [0x00, 0x00, 0x00, 0xEA, 0x8C, 0xDF, 0x28, 0x00, 0xE7, 0x04, 0xE3, 0xFF] ++
      [0x00, 0x01, 0x02, 0x03, 0x04, 0x05, 0x14, 0x07, 0x38, 0x39, 0x3A] ++
      [0x3B, 0x3C, 0x3D, 0x3E, 0x3F, 0x01, 0x00, 0x0F, 0x00, 0x00]) = .ok (.seed seedGfx640x480x16, []) := by decide +kernel

/-- R128: 0x3B4 and 0x3D6 are not the block's; R84: a 16-bit access is not in the interface; an unused form and a cut operation. -/
theorem test_decode_refuses :
    decode [0xB4, 0x03, 0x03] = .error (.unclaimedPort 0x3B4) ∧ decode [0xD6, 0x03, 0x00, 0x00] = .error (.unclaimedPort 0x3D6) ∧
    decode [0xC4, 0x03, 0x21] = .error (.widePortAccess 0x3C4) ∧ decode [0xC4, 0x03, 0x04] = .error .malformed ∧
    decode [0xC4, 0x03, 0x00] = .error .truncated ∧ decode [0xC5, 0x03, 0x05, 0x05, 0x00] = .error .malformed := by decide

/-- The table's word of PORT_SEQ_INDEX, 0x3C4 in bits 15..0. -/
theorem test_table_word : decodeTableWord 16 0x3C4 = some (.outPortSeqIndex 0) := by decide

/-! ### WellFormed -/

/-- R120: the buffer of MEMR has the length of the call; one byte short or long is refused. -/
theorem test_wellFormed_memr :
    Instr.wellFormed (.memr 0xB8000 2 [0xEE, 0xEE]) = true ∧ Instr.wellFormed (.memr 0xB8000 2 [0xEE]) = false ∧
    Instr.wellFormed (.memr 0xB8000 0 [0xEE]) = false := by decide

/-! ### Single operations -/

/-- The state with the device changed. -/
def withDev (f : Device → Device) : State := { State.reset with dev := f Device.reset }

/-- A device whose registers are at reset with `PORT_MISC` enabling RAM, mask `m`, window 1 and byte units. -/
def planarDev (m : Byte) : Device :=
  { Device.reset with
    misc := 0x02
    seq := #v[0, 0, m, 0, 0]
    gc := #v[0, 0, 0, 0, 0, 0, 0x05, 0, 0]
    crtc := Device.reset.crtc.set 0x17 0x40 }

/-- The same with chain-4 and dword units, the 256-colour layout. -/
def chainDev : Device := { planarDev 0x0F with seq := #v[0, 0, 0x0F, 0, 0x08], crtc := Device.reset.crtc.set 0x14 0x40 }

/-- The same with odd/even, window 3, mask 3 and word units, the text layout. -/
def textDev : Device :=
  { planarDev 0x03 with gc := #v[0, 0, 0, 0, 0, 0x10, 0x0E, 0, 0], crtc := Device.reset.crtc }

/-- The state after an operation, or the state itself where the operation has no next state. -/
def after (i : Instr) (s : State) : State :=
  match exec i s with
  | .next t => t
  | .fault _ => s
  | .refused _ => s

/-- I1, I2: PORT_SEQ_INDEX takes 4 and ignores 5. -/
theorem test_seq_index :
    (after (.outPortSeqIndex 0x04) State.reset).dev.seqIndex = 4 ∧
    (after (.outPortSeqIndex 0x05) (withDev fun d => { d with seqIndex := 4 })).dev.seqIndex = 4 := by decide

/-- I5: PORT_GC_INDEX takes 8 and ignores 9. -/
theorem test_gc_index :
    (after (.outPortGcIndex 0x08) State.reset).dev.gcIndex = 8 ∧
    (after (.outPortGcIndex 0x09) (withDev fun d => { d with gcIndex := 8 })).dev.gcIndex = 8 := by decide

/-- I8: PORT_CRTC_INDEX takes 0x18 and ignores 0x19. -/
theorem test_crtc_index :
    (after (.outPortCrtcIndex 0x18) State.reset).dev.crtcIndex = 0x18 ∧
    (after (.outPortCrtcIndex 0x19) (withDev fun d => { d with crtcIndex := 0x18 })).dev.crtcIndex = 0x18 := by decide

/-- I3: SEQ data at index 4, all bits kept. -/
theorem test_seq_data : (after (.outPortSeqData 0xAB) (withDev fun d => { d with seqIndex := 4 })).dev.seq[4] = 0xAB := by decide

/-- I6, I7: GC_BIT_MASK marks nothing, GC_MISC marks the edge at the same value. -/
theorem test_gc_data :
    (after (.outPortGcData 0xFF) (withDev fun d => { d with gcIndex := 8, modeChanged := false })).dev.modeChanged = false ∧
    (after (.outPortGcData 0x00) (withDev fun d => { d with gcIndex := 6, modeChanged := false })).dev.modeChanged = true := by decide

/-- The table of R174: 0x12 marks the mode edge alone, 0x0F the cursor edge alone, 0x0D neither. -/
theorem test_crtc_edges :
    ([0x12, 0x0F, 0x0D].map fun i : Fin 25 =>
      let d := (after (.outPortCrtcData 0x50) (withDev fun d => { d with crtcIndex := i, modeChanged := false })).dev
      (d.modeChanged, d.cursorMoved)) = [(true, false), (false, true), (false, false)] := by decide

/-- A1, A3: an index write of 0x14 is taken, one of 0x15 ignored, and the latch toggles in both. -/
theorem test_ac_index :
    ((after (.outPortAcIndexData 0x14) State.reset).dev.acIndex, (after (.outPortAcIndexData 0x14) State.reset).dev.acLatch) =
      (0x14, true) ∧
    ((after (.outPortAcIndexData 0x15) State.reset).dev.acIndex, (after (.outPortAcIndexData 0x15) State.reset).dev.acLatch) =
      (0, true) := by decide

/-- A10: a data write keeps all 8 bits and clears the latch. -/
theorem test_ac_data :
    ((after (.outPortAcIndexData 0x3F) (withDev fun d => { d with acIndex := 1, acLatch := true })).dev.ac[1],
      (after (.outPortAcIndexData 0x3F) (withDev fun d => { d with acIndex := 1, acLatch := true })).dev.acLatch) =
      (0x3F, false) := by decide

/-- A8, A9: the reads of the AC ports leave the latch. -/
theorem test_ac_reads :
    (after .inPortAcIndexData (withDev fun d => { d with acIndex := 1, acLatch := true })).answer = .byte 0x01 ∧
    (after .inPortAcRead (withDev fun d => { d with acIndex := 1, acLatch := true })).dev.acLatch = true := by decide

/-- A register's row reaches its register when the index holds its number (`GCW 6, 0x05`; `ACW 0x10, 0x41`), and the port's register
when it does not (log entry 11). -/
theorem test_register_rows :
    (after (.writeGcMisc 0x05) (withDev fun d => { d with gcIndex := 6 })).dev.gc[6] = 0x05 ∧
    (after (.writeAcMode 0x41) (withDev fun d => { d with acIndex := 0x10, acLatch := true })).dev.ac[0x10] = 0x41 ∧
    (after (.writeGcMisc 0x05) (withDev fun d => { d with gcIndex := 4 })).dev.gc = #v[0, 0, 0, 0, 0x05, 0, 0, 0, 0] := by decide

/-- DA10: the Misc register. -/
theorem test_misc :
    (after (.outPortMiscWrite 0xFF) State.reset).dev.misc = 0xFF ∧
    (after .inPortMiscRead (withDev fun d => { d with misc := 0xFF })).answer = .byte 0xFF := by decide

/-- DA1, DA2: a DAC data write is dropped in direction Read, stored unmasked in direction Write. -/
theorem test_dac_data_write :
    (after (.outPortDacData 0x11) State.reset).dev.paletteChanged = false ∧
    (after (.outPortDacData 0xFF) (withDev fun d => { d with dacDir := .write, dacIndex := 2 })).dev.dac[2] = 0xFF := by
  constructor <;> rfl

/-- DA6: after the last byte of entry 255 comes entry 0. -/
theorem test_dac_wrap :
    (after (.outPortDacData 0x03) (withDev fun d => { d with dacDir := .write, dacIndex := 767 })).dev.dacIndex = 0 := rfl

/-- DA3, DA5: the entry number reads back; a data read in direction Read returns the byte and advances. -/
theorem test_dac_reads :
    (after .inPortDacWriteIndex (withDev fun d => { d with dacIndex := 3 })).answer = .byte 0x01 ∧
    (after .inPortDacData (withDev fun d => { d with dacIndex := 2 })).dev.dacIndex = 3 := by
  constructor <;> rfl

/-- S2, S3: the status byte, and that the read clears. -/
theorem test_status :
    (after .inPortStatus (withDev fun d => { d with hRetrace := true })).answer = .byte 0x01 ∧
    (after .inPortStatus (withDev fun d => { d with vRetrace := true })).answer = .byte 0x09 ∧
    (after .inPortStatus (withDev fun d => { d with vRetrace := true })).dev.vRetrace = false := by decide

/-- M1, M3: a planar write with mask 0xF reaches every plane. -/
theorem test_memw_planar :
    (after (.memw 0xA0020 [0x01, 0x02]) { State.reset with dev := planarDev 0x0F }).dev.planes =
      [(0x20, 0x01), (0x21, 0x02), (0x10020, 0x01), (0x10021, 0x02), (0x20020, 0x01), (0x20021, 0x02), (0x30020, 0x01),
        (0x30021, 0x02)] := by decide

/-- M6b: the byte above the limit is dropped. -/
theorem test_memw_window :
    (after (.memw 0xAFFFF [0xAA, 0xBB]) { State.reset with dev := planarDev 0x01 }).dev.planes = [(0xFFFF, 0xAA)] := by decide

/-- M7: chain-4. -/
theorem test_memw_chain4 :
    (after (.memw 0xA0000 [0x10, 0x11, 0x12, 0x13, 0x14]) { State.reset with dev := chainDev }).dev.planes =
      [(0, 0x10), (4, 0x14), (0x10000, 0x11), (0x20000, 0x12), (0x30000, 0x13)] := by decide

/-- M8: odd/even with mask 3. -/
theorem test_memw_text :
    (after (.memw 0xB8000 [0x41, 0x07, 0x42, 0x1F]) { State.reset with dev := textDev }).dev.planes =
      [(0, 0x41), (2, 0x42), (0x10000, 0x07), (0x10002, 0x1F)] := by decide

/-- M2: the read map selects the plane; M6b: a position outside the window keeps what it held. -/
theorem test_memr :
    (after (.memr 0xAFFFF 2 [0xEE, 0xEE]) { State.reset with dev := { planarDev 0x0F with planes := [(0xFFFF, 0xAA)] } }).answer =
      .bytes [0xAA, 0xEE] ∧
    (after (.memr 0xA0000 1 [0xEE]) { State.reset with dev := { planarDev 0x0F with
      planes := [(0, 0x3C), (0x10000, 0x11)], gc := #v[0, 0, 0, 0, 1, 0, 0x05, 0, 0] } }).answer = .bytes [0x11] := by decide +kernel

/-- MR1, MR8: 1 by 1 at reset; 27 dots halved give 13. -/
theorem test_res :
    (after .res State.reset).answer = .resolution 1 1 ∧
    (after .res (withDev fun d => { d with
      gc := d.gc.set 6 0x01, crtc := d.crtc.set 1 0x02, ac := d.ac.set 0x10 0x40 })).answer = .resolution 13 1 := by decide

/-- MR2, MR3, MR4: the three named seeds. -/
theorem test_seed_geometry :
    ([seedText80x25, seedGfx320x200x256, seedGfx640x480x16].map fun x => (Device.reset.loadSeed x).geometry) =
      [⟨true, 80, 25⟩, ⟨false, 320, 200⟩, ⟨false, 640, 480⟩] := by decide

/-- R331 and R396: text at reset, graphics after the graphics seed. -/
theorem test_istext :
    (after .istext State.reset).answer = .bool true ∧
    (after (.seed seedGfx640x480x16) State.reset).dev.isText = false := by decide

/-- K1, K7: the cursor of the text seed; skew 1, location 0x52. -/
theorem test_cursor :
    (after .cursor { State.reset with dev := Device.reset.loadSeed seedText80x25 }).answer = .cursor true (some ⟨1, 16⟩) 0 0 ∧
    (after .cursor { State.reset with dev := { Device.reset.loadSeed seedText80x25 with
      crtc := (seedText80x25.crtc.set 0x0B 0x2E).set 0x0F 0x52 } }).answer = .cursor true (some ⟨1, 16⟩) 1 3 := by decide +kernel

/-- H1: there is no cell to read before the first refresh; R334: a taken region is emptied. -/
theorem test_surf_and_take :
    (after (.surf (some (0, 0))) State.reset).answer = .noSurface ∧
    (after .takedirty (withDev fun d => { d with dirty := .rect 2 1 2 1 })).dev.dirty = .empty := by decide

/-- A graphics device of `w` by 1 pixels (9, or 4 with COLOR8) with a surface of that size, GC mode byte `m` and AC mode byte `a`. -/
def gfxDev (m a : Byte) (w : Nat) (planes : Memory) : Device :=
  { Device.reset with
    gc := #v[0, 0, 0, 0, 0, m, 0x01, 0, 0]
    ac := Device.reset.ac.set 0x10 a
    modeChanged := false
    planes := planes
    surface := .gfx w 1 [List.replicate w 0] }

/-- A text device of one cell with a surface of that size. -/
def cellDev (planes : Memory) : Device :=
  { Device.reset with modeChanged := false, planes := planes, surface := .text 1 1 [[⟨0, 0⟩]] }

/-- T1's kind: character from plane 0, attribute from plane 1, and the changed cell's region. -/
theorem test_refresh_text :
    (after .refresh { State.reset with dev := cellDev [(0, 0x58), (0x10000, 0x1E)] }).dev.surface = .text 1 1 [[⟨0x58, 0x1E⟩]] ∧
    (after .refresh { State.reset with dev := cellDev [(0, 0x58), (0x10000, 0x1E)] }).dev.dirty = .rect 0 0 0 0 := by decide +kernel

/-- PL4 and PL8a: the planar paths; unit 2, so the second group of columns is at offset 2. -/
theorem test_refresh_planar :
    (after .refresh { State.reset with dev := gfxDev 0x00 0x00 9 [(0, 0x80), (0x20000, 0xC0)] }).dev.surface =
      .gfx 9 1 [[5, 4, 0, 0, 0, 0, 0, 0, 0]] ∧
    (after .refresh { State.reset with dev := gfxDev 0x00 0x40 4 [(0, 0x80), (0x10000, 0x40), (0x30000, 0xC0)] }).dev.surface =
      .gfx 4 1 [[0xA9, 0, 0, 0]] := by decide +kernel

/-- P8a's and P4a's kind: the Shift-256 paths. -/
theorem test_refresh_shift256 :
    (after .refresh { State.reset with dev := gfxDev 0x40 0x40 4 [(0, 0x2C), (0x30000, 0x7E)] }).dev.surface =
      .gfx 4 1 [[0x2C, 0, 0, 0x7E]] ∧
    (after .refresh { State.reset with dev := gfxDev 0x40 0x00 9 [(0, 0xA5), (2, 0x9F), (0x10000, 0x3C)] }).dev.surface =
      .gfx 9 1 [[0xA, 0x5, 0x3, 0xC, 0, 0, 0, 0, 0x9]] := by decide +kernel

/-- PI1: the unimplemented path leaves the pixels and sets the marker. -/
theorem test_refresh_interleaved :
    (after .refresh { State.reset with dev := gfxDev 0x20 0x00 9 [(0, 0xFF)] }).dev.surface = .gfx 9 1 [List.replicate 9 0] ∧
    (after .refresh { State.reset with dev := gfxDev 0x20 0x00 9 [(0, 0xFF)] }).dev.unimplSeen = true := by decide

/-- RN2: a geometry that differs reallocates, zero filled, with nothing dirty; E1: where the environment cannot, the session ends. -/
theorem test_refresh_reallocates :
    ((cellDev []).setCrtc (Device.reset.crtc.set 1 1)).refresh true =
      (((cellDev []).setCrtc (Device.reset.crtc.set 1 1)).setSurface (.text 2 1 [[⟨0, 0⟩, ⟨0, 0⟩]]), .none) ∧
    (Device.reset.refresh false).1.fatal = true := by
  constructor <;> rfl

/-- R284 and R302: at the edge a surface of the same geometry loses its content, and the region its old rectangle, on the
unimplemented path too. -/
theorem test_refresh_discards :
    ((({ gfxDev 0x20 0x40 4 [(0, 0xFF)] with
      modeChanged := true, dirty := .rect 0 0 3 0, surface := .gfx 4 1 [[1, 2, 3, 4]] } : Device).refresh true).1.surface,
      (({ gfxDev 0x20 0x40 4 [(0, 0xFF)] with
        modeChanged := true, dirty := .rect 0 0 3 0, surface := .gfx 4 1 [[1, 2, 3, 4]] } : Device).refresh true).1.dirty) =
      (.gfx 4 1 [[0, 0, 0, 0]], .empty) := by decide +kernel

/-- A step takes one table word and runs it; the port of another device is refused (I12). -/
theorem test_step :
    step (State.reset.withFetchWord 16 0x3C4) = exec (.outPortSeqIndex 0) State.reset ∧
    step { State.reset with pending := [0xB4, 0x03, 0x03] } = .refused (.unclaimedPort 0x3B4) := by
  constructor <;> rfl

/-! ### Witnesses: a concrete state and operands that meet the hypotheses of each statement that has some -/

/-- DecodeEncodeRoundTrip, at the operand WellFormed checks. -/
theorem witness_DecodeEncodeRoundTrip : Instr.wellFormed (.memr 0xB8000 2 [0xEE, 0xEE]) = true := rfl

theorem witness_StepRunsDecodedOperation :
    Instr.wellFormed (.outPortGcData 0x05) = true ∧
    decode { State.reset with pending := [0xCF, 0x03, 0x00, 0x05, 0xDA, 0x03, 0x03] }.pending =
      .ok (.outPortGcData 0x05, [0xDA, 0x03, 0x03]) := by decide

theorem witness_IdleStepChangesNothing : State.reset.pending = [] := rfl

/-- Below, between and above the 14 ports. -/
theorem witness_UnclaimedPortAccessIsRefused :
    (∀ n, (0x3BF : Port) ≠ Config.portNumber n) ∧ (∀ n, (0x3C3 : Port) ≠ Config.portNumber n) ∧
    (∀ n, (0x3DB : Port) ≠ Config.portNumber n) := by
  refine ⟨fun n => ?_, fun n => ?_, fun n => ?_⟩ <;> cases n <;> decide

/-- Devices that meet the invariant with a surface and any canonical planes. -/
theorem cellDev_inv (m : Memory) (h : m.wf = true) : Inv { State.reset with dev := cellDev m } :=
  ⟨h, rfl, rfl, fun e => absurd rfl e, fun e => Bool.noConfusion e, fun e => Surface.noConfusion e⟩

theorem gfxDev_inv (m a : Byte) (planes : Memory) (h : planes.wf = true) : Inv { State.reset with dev := gfxDev m a 9 planes } :=
  ⟨h, rfl, rfl, fun e => absurd rfl e, fun e => Bool.noConfusion e, fun e => Surface.noConfusion e⟩

theorem gfxDev4_inv (m a : Byte) (planes : Memory) (h : planes.wf = true) : Inv { State.reset with dev := gfxDev m a 4 planes } :=
  ⟨h, rfl, rfl, fun e => absurd rfl e, fun e => Bool.noConfusion e, fun e => Surface.noConfusion e⟩

/-- The invariant and a step with an answer: a refresh that paints a cell. -/
theorem witness_StepKeepsInvariant :
    Inv { State.reset with dev := cellDev [(0, 0x58)], pending := [0x00, 0x00, 0x11] } ∧
    ∃ t, step { State.reset with dev := cellDev [(0, 0x58)], pending := [0x00, 0x00, 0x11] } = .next t :=
  ⟨cellDev_inv [(0, 0x58)] rfl, _, rfl⟩

theorem witness_EndedSessionRefusesEveryOperation : (withDev fun d => { d with fatal := true }).dev.fatal = true := rfl

/-- OwnershipOfPlanesAndSurface: an operation that is neither. -/
theorem witness_OwnershipOfPlanesAndSurface :
    (∃ t, exec (.outPortMiscWrite 0x67) State.reset = .next t) ∧ (∀ a bs, Instr.outPortMiscWrite 0x67 ≠ .memw a bs) ∧
    Instr.outPortMiscWrite 0x67 ≠ .refresh := ⟨⟨_, rfl⟩, fun _ _ => nofun, nofun⟩

/-- RetraceFlagWriters: with both flags set, an operation that is none of the three. -/
theorem witness_RetraceFlagWriters :
    (∃ t, exec .refresh { State.reset with dev := { cellDev [] with hRetrace := true, vRetrace := true } } = .next t) ∧
    Instr.refresh ≠ .hretrace ∧ Instr.refresh ≠ .vretrace ∧ Instr.refresh ≠ .inPortStatus := ⟨⟨_, rfl⟩, nofun, nofun, nofun⟩

/-- AcLatchWriters: a read of the AC data, with the latch set. -/
theorem witness_AcLatchWriters :
    (∃ t, exec .inPortAcRead (withDev fun d => { d with acLatch := true }) = .next t) ∧
    (∀ v, Instr.inPortAcRead ≠ .outPortAcIndexData v) ∧ (∀ n v, Instr.inPortAcRead ≠ acWriteRow n v) ∧
    Instr.inPortAcRead ≠ .inPortStatus := by
  refine ⟨⟨_, rfl⟩, fun _ => nofun, fun n v => ?_, nofun⟩
  fin_cases n <;> exact nofun

theorem witness_DacWriters :
    (∃ t, exec .vretrace (withDev fun d => { d with dacDir := .write, dacIndex := 767 }) = .next t) ∧
    (∀ v, Instr.vretrace ≠ .outPortDacData v) ∧ (∀ v, Instr.vretrace ≠ .outPortDacReadIndex v) ∧
    (∀ v, Instr.vretrace ≠ .outPortDacWriteIndex v) ∧ Instr.vretrace ≠ .inPortDacData :=
  ⟨⟨_, rfl⟩, fun _ => nofun, fun _ => nofun, fun _ => nofun, nofun⟩

/-- HostOperationsArePure: a pure query, and a take with a region to take. -/
theorem witness_HostOperationsArePure :
    (∃ t, exec .res (withDev fun d => { d with dirty := .rect 0 0 1 1 }) = .next t) ∧
    ∃ t, exec .takedirty (withDev fun d => { d with dirty := .rect 0 0 1 1 }) = .next t := ⟨⟨_, rfl⟩, _, rfl⟩

/-- ModeEdgeWriters: each way to set the edge, and the one to clear it. -/
theorem witness_ModeEdgeWriters :
    (after (.seed seedText80x25) (withDev fun d => { d with modeChanged := false })).dev.modeChanged = true ∧
    (after (.writeGcMisc 0) (withDev fun d => { d with modeChanged := false, gcIndex := 6 })).dev.modeChanged = true ∧
    (after (.outPortCrtcData 0) (withDev fun d => { d with modeChanged := false, crtcIndex := 0x07 })).dev.modeChanged = true ∧
    (Device.reset.refresh true).1.modeChanged = false := by decide +kernel

/-- `Safe` alone: IndexPortWrites, IndexPortReads, SeqDataPortWrite, GcDataPortWrite, CrtcDataPortWrite, DataPortReads,
UnusedPortDirections, MiscPorts, DacIndexPorts, StatusPortRead, RetraceSignals, CurrentResolution, TakeDirtyRegion,
LoadSeed, RefreshCompletesAndFrame. The clauses of the first six at the bounds of their ranges are the tests above
(`test_seq_index`, `test_gc_index`, `test_crtc_index`, `test_gc_data`, `test_crtc_edges`). -/
theorem witness_Safe : Safe State.reset := rfl

theorem witness_GcMiscWriteMarksTheEdge :
    Safe (withDev fun d => { d with gcIndex := 6 }) ∧ (withDev fun d => { d with gcIndex := 6 }).dev.gcIndex = 6 := ⟨rfl, rfl⟩

/-- AcPortWrite: both values of the latch; the bound of the index is `test_ac_index`. -/
theorem witness_AcPortWrite :
    (Safe State.reset ∧ State.reset.dev.acLatch = false) ∧
    Safe (withDev fun d => { d with acLatch := true }) ∧ (withDev fun d => { d with acLatch := true }).dev.acLatch = true :=
  ⟨⟨rfl, rfl⟩, rfl, rfl⟩

/-- The register rows, at the last number of each group. -/
theorem witness_RegisterRows :
    (Safe (withDev fun d => { d with seqIndex := 4 }) ∧ (withDev fun d => { d with seqIndex := 4 }).dev.seqIndex = 4) ∧
    (Safe (withDev fun d => { d with gcIndex := 8 }) ∧ (withDev fun d => { d with gcIndex := 8 }).dev.gcIndex = 8) ∧
    (Safe (withDev fun d => { d with crtcIndex := 0x18 }) ∧ (withDev fun d => { d with crtcIndex := 0x18 }).dev.crtcIndex = 0x18) ∧
    Safe (withDev fun d => { d with acIndex := 0x14, acLatch := true }) ∧
    (withDev fun d => { d with acIndex := 0x14, acLatch := true }).dev.acIndex = 0x14 ∧
    (withDev fun d => { d with acIndex := 0x14, acLatch := true }).dev.acLatch = true := by
  refine ⟨⟨rfl, rfl⟩, ⟨rfl, rfl⟩, ⟨rfl, rfl⟩, rfl, rfl, rfl⟩

/-- DacDataPortWrite and DacDataPortRead: both directions, the index at its last value. -/
theorem witness_DacDataPort :
    (Safe State.reset ∧ State.reset.dev.dacDir = .read) ∧
    Safe (withDev fun d => { d with dacDir := .write, dacIndex := 767 }) ∧
    (withDev fun d => { d with dacDir := .write, dacIndex := 767 }).dev.dacDir = .write := ⟨⟨rfl, rfl⟩, rfl, rfl⟩

theorem witness_DacIndexWraps : ({ Device.reset with dacDir := .write, dacIndex := 5 } : Device).dacDir = .write := rfl

theorem witness_RamDisabledMemoryOperationsAreNoOps : Safe State.reset ∧ State.reset.dev.misc.getLsbD 1 = false := ⟨rfl, rfl⟩

/-- M4: the mask register 0xF0 has its four mask bits clear. -/
theorem witness_ZeroMaskDropsWritesOnly :
    Safe { State.reset with dev := planarDev 0xF0 } ∧
    { State.reset with dev := planarDev 0xF0 }.dev.seq[2].extractLsb' 0 4 = 0 := ⟨rfl, rfl⟩

/-- WriteMemoryStoresAndFrame: the gates open, a byte stored to plane 0 at 0xFFFF, the next one outside the window. -/
theorem witness_WriteMemoryStoresAndFrame :
    Safe { State.reset with dev := planarDev 0x01 } ∧ (planarDev 0x01).planes.wf = true ∧ WriteGatesOpen (planarDev 0x01) ∧
    Hits (planarDev 0x01) (0xAFFFF + BitVec.ofNat 32 0) 0 0xFFFF ∧
    ¬ Hits (planarDev 0x01) (0xAFFFF + BitVec.ofNat 32 1) 0 0xFFFF ∧
    ¬ Hits (planarDev 0x01) (0xAFFFF + BitVec.ofNat 32 0) 1 0xFFFF := by
  refine ⟨rfl, rfl, ⟨rfl, by decide⟩, ⟨rfl, by decide, rfl, rfl⟩, fun h => ?_, fun h => ?_⟩
  · exact absurd h.1 (by decide)
  · exact absurd h.2.2.1 (by decide)

/-- PlaneFanOut and WriteThenReadSameAddress: the first and the last address of window 1. -/
theorem witness_PlaneFanOut_WriteThenReadSameAddress :
    Safe { State.reset with dev := planarDev 0x05 } ∧ (planarDev 0x05).planes.wf = true ∧ (planarDev 0x05).ramEnabled = true ∧
    (planarDev 0x05).inWindow 0xA0000 = true ∧ (planarDev 0x05).inWindow 0xAFFFF = true ∧
    (planarDev 0x05).inWindow 0xB0000 = false := ⟨rfl, by decide⟩

/-- ReadMemoryReturnsEachByte: a buffer whose first byte is inside the window and whose second is not. -/
theorem witness_ReadMemoryReturnsEachByte :
    Safe { State.reset with dev := planarDev 0x0F } ∧ (planarDev 0x0F).inWindow (0xAFFFF + BitVec.ofNat 32 0) = true ∧
    (planarDev 0x0F).inWindow (0xAFFFF + BitVec.ofNat 32 1) = false := ⟨rfl, by decide⟩

theorem witness_IsTextMode :
    Safe (withDev fun d => { d with gcIndex := 6 }) ∧ (withDev fun d => { d with gcIndex := 6 }).dev.gcIndex = 6 := ⟨rfl, rfl⟩

/-- ReadSurface: no surface; a text grid at its one element and the first row outside; a graphics grid at its last column and the
first one outside. -/
theorem witness_ReadSurface :
    State.reset.dev.surface = .none ∧
    ((cellDev []).surface = .text 1 1 [[⟨0, 0⟩]] ∧ (cellDev []).surface.wf = true ∧
      (([[⟨0, 0⟩]] : List (List TextCell))[0]?.bind fun r => r[0]?) = some ⟨0, 0⟩) ∧
    ((gfxDev 0 0 9 []).surface = .gfx 9 1 [List.replicate 9 0] ∧ (gfxDev 0 0 9 []).surface.wf = true ∧
      (([List.replicate 9 0] : List (List Byte))[0]?.bind fun r => r[8]?) = some 0) ∧
    exec (.surf (some (1, 0))) { State.reset with dev := cellDev [] } = .refused .outsideGrid ∧
    exec (.surf (some (0, 9))) { State.reset with dev := gfxDev 0 0 9 [] } = .refused .outsideGrid :=
  ⟨rfl, ⟨rfl, rfl, rfl⟩, ⟨rfl, rfl, rfl⟩, rfl, rfl⟩

/-- CursorInfo: a stride of 0 at reset (K8), of 80 with the text seed. -/
theorem witness_CursorInfo :
    (Safe State.reset ∧ State.reset.dev.crtc[0x13].toNat = 0) ∧
    Safe { State.reset with dev := Device.reset.loadSeed seedText80x25 } ∧ (Device.reset.loadSeed seedText80x25).crtc[0x13].toNat ≠ 0 :=
  ⟨⟨rfl, rfl⟩, rfl, by decide⟩

/-- RefreshWithoutReallocation, RefreshDirtyRegionIsMinimal (with the invariant), SecondRefreshChangesNothing. -/
theorem witness_RefreshWithoutReallocation :
    Safe { State.reset with dev := cellDev [(0, 0x58)] } ∧ (cellDev [(0, 0x58)]).modeChanged = false ∧
    (cellDev [(0, 0x58)]).surface.geometry = some (cellDev [(0, 0x58)]).geometry := ⟨rfl, rfl, rfl⟩

/-- RefreshReallocates: at reset the edge is set and there is no surface; a device on path `Interleaved` with the edge, a surface of
the same geometry and a grid that is not empty. -/
theorem witness_RefreshReallocates :
    (Safe State.reset ∧ State.reset.dev.modeChanged = true ∧ State.reset.dev.surface.geometry ≠ some State.reset.dev.geometry) ∧
    Safe { State.reset with dev := { gfxDev 0x20 0x40 4 [] with modeChanged := true } } ∧
    (gfxDev 0x20 0x40 4 []).noAlpha = true ∧ (gfxDev 0x20 0x40 4 []).shift256 = false ∧ (gfxDev 0x20 0x40 4 []).shiftReg = true ∧
    0 < (gfxDev 0x20 0x40 4 []).height ∧ 3 < (gfxDev 0x20 0x40 4 []).width :=
  ⟨⟨rfl, rfl, nofun⟩, rfl, by decide +kernel⟩

/-- RefreshRendersText, RefreshDirtyRegionIsMinimal, SecondRefreshChangesNothing: a refresh of one text cell, with cell (0, 0). -/
theorem witness_RefreshRendersText :
    Inv { State.reset with dev := cellDev [(0, 0x58)] } ∧
    (∃ t, exec .refresh { State.reset with dev := cellDev [(0, 0x58)] } = .next t ∧ t.dev.fatal = false) ∧
    (cellDev [(0, 0x58)]).noAlpha = false ∧ 0 < (cellDev [(0, 0x58)]).height ∧ 0 < (cellDev [(0, 0x58)]).width :=
  ⟨cellDev_inv _ rfl, ⟨_, rfl, rfl⟩, by decide, by decide, by decide⟩

/-- RefreshRendersShift256x8, at the last pixel of the row. -/
theorem witness_RefreshRendersShift256x8 :
    Inv { State.reset with dev := gfxDev 0x40 0x40 4 [] } ∧
    (∃ t, exec .refresh { State.reset with dev := gfxDev 0x40 0x40 4 [] } = .next t ∧ t.dev.fatal = false) ∧
    (gfxDev 0x40 0x40 4 []).noAlpha = true ∧ (gfxDev 0x40 0x40 4 []).shift256 = true ∧ (gfxDev 0x40 0x40 4 []).color8 = true ∧
    0 < (gfxDev 0x40 0x40 4 []).height ∧ 3 < (gfxDev 0x40 0x40 4 []).width :=
  ⟨gfxDev4_inv _ _ _ rfl, ⟨_, rfl, rfl⟩, by decide +kernel⟩

theorem witness_RefreshRendersShift256x4 :
    Inv { State.reset with dev := gfxDev 0x40 0x00 9 [] } ∧
    (∃ t, exec .refresh { State.reset with dev := gfxDev 0x40 0x00 9 [] } = .next t ∧ t.dev.fatal = false) ∧
    (gfxDev 0x40 0x00 9 []).noAlpha = true ∧ (gfxDev 0x40 0x00 9 []).shift256 = true ∧ (gfxDev 0x40 0x00 9 []).color8 = false ∧
    0 < (gfxDev 0x40 0x00 9 []).height ∧ 8 < (gfxDev 0x40 0x00 9 []).width :=
  ⟨gfxDev_inv _ _ _ rfl, ⟨_, rfl, rfl⟩, by decide +kernel⟩

theorem witness_RefreshRendersPlanar8 :
    Inv { State.reset with dev := gfxDev 0x00 0x40 4 [] } ∧
    (∃ t, exec .refresh { State.reset with dev := gfxDev 0x00 0x40 4 [] } = .next t ∧ t.dev.fatal = false) ∧
    (gfxDev 0x00 0x40 4 []).noAlpha = true ∧ (gfxDev 0x00 0x40 4 []).shift256 = false ∧
    (gfxDev 0x00 0x40 4 []).shiftReg = false ∧ (gfxDev 0x00 0x40 4 []).color8 = true ∧
    0 < (gfxDev 0x00 0x40 4 []).height ∧ 3 < (gfxDev 0x00 0x40 4 []).width :=
  ⟨gfxDev4_inv _ _ _ rfl, ⟨_, rfl, rfl⟩, by decide +kernel⟩

theorem witness_RefreshRendersPlanar4 :
    Inv { State.reset with dev := gfxDev 0x00 0x00 9 [] } ∧
    (∃ t, exec .refresh { State.reset with dev := gfxDev 0x00 0x00 9 [] } = .next t ∧ t.dev.fatal = false) ∧
    (gfxDev 0x00 0x00 9 []).noAlpha = true ∧ (gfxDev 0x00 0x00 9 []).shift256 = false ∧
    (gfxDev 0x00 0x00 9 []).shiftReg = false ∧ (gfxDev 0x00 0x00 9 []).color8 = false ∧
    0 < (gfxDev 0x00 0x00 9 []).height ∧ 8 < (gfxDev 0x00 0x00 9 []).width :=
  ⟨gfxDev_inv _ _ _ rfl, ⟨_, rfl, rfl⟩, by decide +kernel⟩

theorem witness_InterleavedRefreshKeepsPixels :
    Safe { State.reset with dev := gfxDev 0x20 0x00 9 [(0, 0xFF)] } ∧ (gfxDev 0x20 0x00 9 [(0, 0xFF)]).modeChanged = false ∧
    (gfxDev 0x20 0x00 9 [(0, 0xFF)]).surface.geometry = some (gfxDev 0x20 0x00 9 [(0, 0xFF)]).geometry ∧
    (gfxDev 0x20 0x00 9 [(0, 0xFF)]).noAlpha = true ∧ (gfxDev 0x20 0x00 9 [(0, 0xFF)]).shift256 = false ∧
    (gfxDev 0x20 0x00 9 [(0, 0xFF)]).shiftReg = true := ⟨rfl, rfl, by decide +kernel⟩

/-- RefreshDirtyRegionIsMinimal: all its hypotheses together. -/
theorem witness_RefreshDirtyRegionIsMinimal :
    Inv { State.reset with dev := cellDev [(0, 0x58)] } ∧ (cellDev [(0, 0x58)]).modeChanged = false ∧
    (cellDev [(0, 0x58)]).surface.geometry = some (cellDev [(0, 0x58)]).geometry ∧
    ∃ t, exec .refresh { State.reset with dev := cellDev [(0, 0x58)] } = .next t :=
  ⟨cellDev_inv _ rfl, rfl, rfl, _, rfl⟩

theorem witness_SecondRefreshChangesNothing :
    ∃ t, exec .refresh { State.reset with dev := cellDev [(0, 0x58)] } = .next t ∧ t.dev.fatal = false := ⟨_, rfl, rfl⟩

end Sys2Proof.Tests
end

/-! Ownership (R110): who writes the planes and who writes the surface, read off the effects of `exec_effect`. -/

namespace Sys2Proof.Proofs

open Sys2Proof Sys2Proof.Machine Sys2Proof.Laws

/-! ### What the composed updates leave of the planes and the surface -/

@[simp] theorem acWrite_planes (d : Device) (v : Byte) : (d.acWrite v).planes = d.planes := by rw [acWrite_eq]

@[simp] theorem acWrite_surface (d : Device) (v : Byte) : (d.acWrite v).surface = d.surface := by rw [acWrite_eq]

@[simp] theorem dacDataWrite_planes (d : Device) (v : Byte) : (d.dacDataWrite v).planes = d.planes := by
  cases h : d.dacDir with
  | write => rw [dacDataWrite_of_write v h]
  | read => rw [dacDataWrite_of_read v h]

@[simp] theorem dacDataWrite_surface (d : Device) (v : Byte) : (d.dacDataWrite v).surface = d.surface := by
  cases h : d.dacDir with
  | write => rw [dacDataWrite_of_write v h]
  | read => rw [dacDataWrite_of_read v h]

@[simp] theorem writeMemory_surface (d : Device) (a : Addr) (bs : List Byte) : (d.writeMemory a bs).surface = d.surface := by
  obtain ⟨m, h⟩ := writeMemory_setPlanes d a bs
  rw [h, Device.setPlanes_surface]

@[simp] theorem refresh_planes (d : Device) (ok : Bool) : (d.refresh ok).1.planes = d.planes := by
  rw [refresh_update]

/-! ### Ownership -/

/-- R110 for one effect: WriteMemory keeps the surface, RefreshDisplay keeps the planes, every other operation keeps both. -/
theorem effect_planes_surface {d d' : Device} {n : Nat} {i : Instr} (e : DeviceEffect d n i d') :
    (∃ a bs, i = .memw a bs ∧ d'.surface = d.surface) ∨ (i = .refresh ∧ d'.planes = d.planes) ∨
      (d'.planes = d.planes ∧ d'.surface = d.surface) := by
  cases e with
  | memw a bs => exact .inl ⟨a, bs, rfl, writeMemory_surface d a bs⟩
  | refresh => exact .inr (.inl ⟨rfl, refresh_planes d _⟩)
  | acWrite i v => exact .inr (.inr ⟨acWrite_planes d v, acWrite_surface d v⟩)
  | dacDataWrite v => exact .inr (.inr ⟨dacDataWrite_planes d v, dacDataWrite_surface d v⟩)
  | _ => exact .inr (.inr ⟨rfl, rfl⟩)

/-- Settles O11: of all the effects an operation can have, only that of `memw` reaches the planes and only that of `refresh` the
surface. -/
theorem ownershipOfPlanesAndSurface : Obligations.OwnershipOfPlanesAndSurface := by
  intro i s t h
  obtain ⟨-, -, e⟩ := exec_effect h
  obtain ⟨a, bs, rfl, hs⟩ | ⟨rfl, hp⟩ | ⟨hp, hs⟩ := effect_planes_surface e
  · exact ⟨fun hi => absurd rfl (hi a bs), fun _ => hs⟩
  · exact ⟨fun _ => hp, fun hi => absurd rfl hi⟩
  · exact ⟨fun _ => hp, fun _ => hs⟩

end Sys2Proof.Proofs

/-! The side effect of writing GC_MISC (R163): what the write leaves in the device, and what the resolver and the address mapping
make of the register. -/

namespace Sys2Proof.Proofs

open Sys2Proof Sys2Proof.Machine Sys2Proof.Laws

/-! ### The readers of GC_MISC -/

theorem resolveMode_isText_eq (d : Device) : d.resolveMode.isText = !d.gc[6].getLsbD 0 := rfl

theorem window_eq (d : Device) : d.window = Config.window (d.gc[6].extractLsb' 2 2).toFin := rfl

/-! ### The write -/

/-- OUT PORT_GC_DATA completes with GC WriteData's device (R162). -/
theorem exec_outPortGcData (v : Byte) {s : State} (hs : Safe s) :
    exec (.outPortGcData v) s = .next { s with dev := s.dev.gcDataWrite v, answer := .none } :=
  complete_next.2 ⟨hs, rfl⟩

/-- The register GC WriteData reaches while `gc_index` is GC_MISC. -/
theorem gcDataWrite_misc {d : Device} (hd : d.gcIndex = 6) (v : Byte) : (d.gcDataWrite v).gc[6] = v := by
  rw [gcDataWrite_eq, hd]
  exact putReg_get_same d.gc 6 v

/-- The edge of R163: neither the value written nor the old one matters. -/
theorem gcDataWrite_modeChanged_of_misc {d : Device} (hd : d.gcIndex = 6) (v : Byte) : (d.gcDataWrite v).modeChanged = true := by
  have hedge : gcMarksMode 6 = true := rfl
  rw [gcDataWrite_eq, hd, hedge, Bool.or_true]

/-- Settles O21: the write stores `v` and marks the edge, and the resolver and the window read nothing else of the device than the
register just written. -/
theorem gcMiscWriteMarksTheEdge : Obligations.GcMiscWriteMarksTheEdge := by
  intro v s hs hi
  have hmisc := gcDataWrite_misc hi v
  refine ⟨_, exec_outPortGcData v hs, gcDataWrite_modeChanged_of_misc hi v, hmisc, ?_, ?_⟩
  · rw [resolveMode_isText_eq, hmisc]
  · rw [window_eq, hmisc]

end Sys2Proof.Proofs

/-! WriteMemory and ReadMemory (R240 to R251): how each call completes, what its gates leave of it, that a read consults the
sequencer for chain-4 alone, and the lanes a one-byte write reaches. -/

namespace Sys2Proof.Proofs

open Sys2Proof Sys2Proof.Machine Sys2Proof.Laws

/-! ### The calls complete -/

theorem exec_memw (a : Addr) (bytes : List Byte) {s : State} (hs : Safe s) :
    exec (.memw a bytes) s = .next { s with dev := s.dev.writeMemory a bytes, answer := .none } :=
  (execMemw_eq a bytes s).trans (complete_next.2 ⟨hs, rfl⟩)

theorem exec_memr (a : Addr) (length : Nat) (buf : List Byte) {s : State} (hs : Safe s) :
    exec (.memr a length buf) s = .next { s with answer := .bytes (s.dev.readMemory a length buf) } :=
  (execMemr_eq a length buf s).trans (complete_next.2 ⟨hs, rfl⟩)

/-! ### The gates -/

theorem writeMemory_of_ramDisabled {d : Device} (h : d.ramEnabled = false) (a : Addr) (bytes : List Byte) :
    d.writeMemory a bytes = d := if_pos h

theorem readMemory_of_ramDisabled {d : Device} (h : d.ramEnabled = false) (a : Addr) (length : Nat) (buf : List Byte) :
    d.readMemory a length buf = buf := if_pos h

theorem writeMemory_of_mapMask_zero {d : Device} (h : d.mapMask = 0) (a : Addr) (bytes : List Byte) :
    d.writeMemory a bytes = d := by
  rw [Device.writeMemory, if_pos h, ite_self]

theorem writeMemory_of_gatesOpen {d : Device} (h : WriteGatesOpen d) (a : Addr) (bytes : List Byte) :
    d.writeMemory a bytes = d.writeBytes a bytes := by
  obtain ⟨hram, hmask⟩ := h
  rw [Device.writeMemory, if_neg (by simp [hram]), if_neg hmask]

/-- Settles O38: the gate is tested before any byte, so the call's address, bytes and length play no part. -/
theorem ramDisabledMemoryOperationsAreNoOps : Obligations.RamDisabledMemoryOperationsAreNoOps := by
  intro s a bytes length buf hs hram
  refine ⟨?_, ?_⟩
  · rw [exec_memw a bytes hs, writeMemory_of_ramDisabled hram]
  · rw [exec_memr a length buf hs, readMemory_of_ramDisabled hram]

/-! ### What a read consults of the sequencer (R242, R247) -/

theorem chain4_setMapMask (d : Device) (m : Byte) : (d.setSeq (d.seq.set 2 m)).chain4 = d.chain4 := by
  simp [Device.chain4]

section
variable {d : Device} {seq : Vector Byte Config.seqCount}

theorem rawOffset_setSeq (h : (d.setSeq seq).chain4 = d.chain4) (rel : Nat) : (d.setSeq seq).rawOffset rel = d.rawOffset rel := by
  rw [Device.rawOffset, h]
  rfl

theorem readPlane_setSeq (h : (d.setSeq seq).chain4 = d.chain4) (rel : Nat) : (d.setSeq seq).readPlane rel = d.readPlane rel := by
  rw [Device.readPlane, h]
  rfl

theorem readByte_setSeq (h : (d.setSeq seq).chain4 = d.chain4) (a : Addr) (old : Byte) :
    (d.setSeq seq).readByte a old = d.readByte a old := by
  rw [Device.readByte, Device.readOffset, rawOffset_setSeq h, readPlane_setSeq h]
  rfl

theorem readBytes_setSeq (h : (d.setSeq seq).chain4 = d.chain4) (length : Nat) (a : Addr) (buf : List Byte) :
    (d.setSeq seq).readBytes a length buf = d.readBytes a length buf := by
  induction length generalizing a buf with
  | zero => simp only [Device.readBytes]
  | succ length ih =>
    cases buf with
    | nil => rfl
    | cons old rest => rw [Device.readBytes, Device.readBytes, readByte_setSeq h, ih]

theorem readMemory_setSeq (h : (d.setSeq seq).chain4 = d.chain4) (a : Addr) (length : Nat) (buf : List Byte) :
    (d.setSeq seq).readMemory a length buf = d.readMemory a length buf := by
  rw [Device.readMemory, readBytes_setSeq h]
  rfl

end

/-- Settles O39: the gate drops the write whole; a read consults the sequencer for chain-4 alone, which is not in the mask's
register. -/
theorem zeroMaskDropsWritesOnly : Obligations.ZeroMaskDropsWritesOnly := by
  intro s a bytes length buf hs
  refine ⟨fun hmask => ?_, fun m => ⟨_, exec_memr a length buf hs, ?_⟩⟩
  · rw [exec_memw a bytes hs, writeMemory_of_mapMask_zero hmask]
  · have hread : (s.dev.setSeq (s.dev.seq.set 2 m)).readMemory a length buf = s.dev.readMemory a length buf :=
      readMemory_setSeq (chain4_setMapMask s.dev m) a length buf
    rw [← hread]
    exact exec_memr a length buf (s := { s with dev := s.dev.setSeq (s.dev.seq.set 2 m) }) hs

/-! ### The lanes of one byte (R95, R250) -/

theorem mapMask_getLsbD (d : Device) {k : Nat} (hk : k < 4) : d.mapMask.getLsbD k = d.seq[2].getLsbD k := by
  simp [Device.mapMask, hk]

/-- R95's three tests, each addressing mode restricting the lanes only where it is on. -/
theorem eligible_iff (d : Device) (a : Addr) {k : Nat} (hk : k < 4) :
    d.eligible a k = true ↔
      d.seq[2].getLsbD k = true ∧ (d.chain4 = true → a.toNat % 4 = k) ∧ (d.oddEven = true → a.toNat % 2 = k % 2) := by
  rw [Device.eligible, mapMask_getLsbD d hk]
  cases d.chain4 <;> cases d.oddEven <;> simp [and_assoc]

theorem hits_iff_of_inWindow {d : Device} {a : Addr} (hw : d.inWindow a = true) {k : Nat} (hk : k < 4) (o : Nat) :
    Hits d a k o ↔
      o = d.writeOffset (d.relOffset a) ∧ d.seq[2].getLsbD k = true ∧
        (d.chain4 = true → a.toNat % 4 = k) ∧ (d.oddEven = true → a.toNat % 2 = k % 2) := by
  simp only [Hits, hw, Config.numPlanes, hk, eligible_iff d a hk, true_and]
  exact and_comm

/-- With a mask of zero no lane is active, so the gate of R242 drops nothing that R95 would store. -/
theorem not_hits_of_mapMask_zero {d : Device} (h : d.mapMask = 0) (a : Addr) (k o : Nat) : ¬ Hits d a k o := by
  rintro ⟨-, -, hel, -⟩
  simp [Device.eligible, h] at hel

open Classical in
/-- A one-byte WriteMemory with RAM enabled: the byte at every place it is stored to, every other byte as it was. -/
theorem writeMemory_singleton_planeByte {d : Device} (hd : d.planes.wf = true) (hram : d.ramEnabled = true) (a : Addr) (b : Byte)
    (k : Nat) {o : Nat} (ho : o < Config.bankSize) :
    (d.writeMemory a [b]).planeByte k o = if Hits d a k o then b else d.planeByte k o := by
  by_cases hmask : d.mapMask = 0
  · rw [writeMemory_of_mapMask_zero hmask, if_neg (not_hits_of_mapMask_zero hmask a k o)]
  · obtain ⟨m, hm, -, hread⟩ := writeByte_spec d a b hd
    rw [writeMemory_of_gatesOpen ⟨hram, hmask⟩, Device.writeBytes, Device.writeBytes, hm]
    exact hread k o ho

/-- Settles O41: what the byte reaches is R95's eligibility at the one translated offset. -/
theorem planeFanOut : Obligations.PlaneFanOut := by
  intro s a b hs hplanes hram hw
  refine ⟨_, exec_memw a [b] hs, fun k o hk ho => ?_⟩
  classical
  calc (s.dev.writeMemory a [b]).planeByte k o
      = if Hits s.dev a k o then b else s.dev.planeByte k o := writeMemory_singleton_planeByte hplanes hram a b k ho
    _ = _ := if_congr (hits_iff_of_inWindow hw hk o) rfl rfl

end Sys2Proof.Proofs

/-! The host interface (R330 to R341): the text query ISTEXT reads the register NOALPHA stands in, not the surface. -/

namespace Sys2Proof.Proofs

open Sys2Proof Sys2Proof.Machine Sys2Proof.Laws

/-! ### The text query (R331) -/

/-- `F(GC_MISC.NOALPHA) = 0` of R331, as a test of the register's bit. -/
theorem not_noAlpha_eq (d : Device) : (!d.noAlpha) = decide (d.gc[6].getLsbD 0 = false) := by
  rw [Device.noAlpha, Bool.decide_eq_false]

theorem exec_istext {s : State} (hs : Safe s) :
    exec .istext s = .next { s with answer := .bool (decide (s.dev.gc[6].getLsbD 0 = false)) } :=
  complete_next.2 ⟨hs, by rw [not_noAlpha_eq]⟩

@[simp] theorem gcDataWrite_fatal (d : Device) (v : Byte) : (d.gcDataWrite v).fatal = d.fatal := by rw [gcDataWrite_eq]

/-- Settles O45: the query reads GC_MISC alone, and a data write through `gc_index` 6 leaves there the byte written, in a session
that goes on; no refresh comes between. -/
theorem isTextMode : Obligations.IsTextMode := by
  intro s hs
  refine ⟨exec_istext hs, fun v hi => ⟨_, exec_outPortGcData v hs, ?_⟩⟩
  have halive : Safe { s with dev := s.dev.gcDataWrite v, answer := .none } := (gcDataWrite_fatal s.dev v).trans hs
  rw [exec_istext halive, gcDataWrite_misc hi v]

end Sys2Proof.Proofs

/-! Decoding, encoding and the step (R121, R128, R132): the decoder gives back what the encoder writes, a port's name is decoded from
its whole number, and a step runs, skips or refuses what the pending bytes decode to. -/

namespace Sys2Proof.Proofs

open Sys2Proof Sys2Proof.Machine Sys2Proof.Laws

/-! ### The round trip -/

/-- The family RoundTrip put together: one member per constructor. -/
theorem roundTrip (i : Instr) : RoundTrip.Statement i := by
  cases i with
  | outPortAcIndexData v => exact RoundTrip.outPortAcIndexData v
  | inPortAcIndexData => exact RoundTrip.inPortAcIndexData
  | outPortAcRead v => exact RoundTrip.outPortAcRead v
  | inPortAcRead => exact RoundTrip.inPortAcRead
  | outPortMiscWrite v => exact RoundTrip.outPortMiscWrite v
  | inPortMiscWrite => exact RoundTrip.inPortMiscWrite
  | outPortSeqIndex v => exact RoundTrip.outPortSeqIndex v
  | inPortSeqIndex => exact RoundTrip.inPortSeqIndex
  | outPortSeqData v => exact RoundTrip.outPortSeqData v
  | inPortSeqData => exact RoundTrip.inPortSeqData
  | outPortDacReadIndex v => exact RoundTrip.outPortDacReadIndex v
  | inPortDacReadIndex => exact RoundTrip.inPortDacReadIndex
  | outPortDacWriteIndex v => exact RoundTrip.outPortDacWriteIndex v
  | inPortDacWriteIndex => exact RoundTrip.inPortDacWriteIndex
  | outPortDacData v => exact RoundTrip.outPortDacData v
  | inPortDacData => exact RoundTrip.inPortDacData
  | outPortMiscRead v => exact RoundTrip.outPortMiscRead v
  | inPortMiscRead => exact RoundTrip.inPortMiscRead
  | outPortGcIndex v => exact RoundTrip.outPortGcIndex v
  | inPortGcIndex => exact RoundTrip.inPortGcIndex
  | outPortGcData v => exact RoundTrip.outPortGcData v
  | inPortGcData => exact RoundTrip.inPortGcData
  | outPortCrtcIndex v => exact RoundTrip.outPortCrtcIndex v
  | inPortCrtcIndex => exact RoundTrip.inPortCrtcIndex
  | outPortCrtcData v => exact RoundTrip.outPortCrtcData v
  | inPortCrtcData => exact RoundTrip.inPortCrtcData
  | outPortStatus v => exact RoundTrip.outPortStatus v
  | inPortStatus => exact RoundTrip.inPortStatus
  | writeSeqReset v => exact RoundTrip.writeSeqReset v
  | readSeqReset => exact RoundTrip.readSeqReset
  | writeSeqClock v => exact RoundTrip.writeSeqClock v
  | readSeqClock => exact RoundTrip.readSeqClock
  | writeSeqMapMask v => exact RoundTrip.writeSeqMapMask v
  | readSeqMapMask => exact RoundTrip.readSeqMapMask
  | writeSeqCharMap v => exact RoundTrip.writeSeqCharMap v
  | readSeqCharMap => exact RoundTrip.readSeqCharMap
  | writeSeqMem v => exact RoundTrip.writeSeqMem v
  | readSeqMem => exact RoundTrip.readSeqMem
  | writeGcSetReset v => exact RoundTrip.writeGcSetReset v
  | readGcSetReset => exact RoundTrip.readGcSetReset
  | writeGcEnableSetReset v => exact RoundTrip.writeGcEnableSetReset v
  | readGcEnableSetReset => exact RoundTrip.readGcEnableSetReset
  | writeGcColorCompare v => exact RoundTrip.writeGcColorCompare v
  | readGcColorCompare => exact RoundTrip.readGcColorCompare
  | writeGcRotate v => exact RoundTrip.writeGcRotate v
  | readGcRotate => exact RoundTrip.readGcRotate
  | writeGcReadMap v => exact RoundTrip.writeGcReadMap v
  | readGcReadMap => exact RoundTrip.readGcReadMap
  | writeGcMode v => exact RoundTrip.writeGcMode v
  | readGcMode => exact RoundTrip.readGcMode
  | writeGcMisc v => exact RoundTrip.writeGcMisc v
  | readGcMisc => exact RoundTrip.readGcMisc
  | writeGcDontCare v => exact RoundTrip.writeGcDontCare v
  | readGcDontCare => exact RoundTrip.readGcDontCare
  | writeGcBitMask v => exact RoundTrip.writeGcBitMask v
  | readGcBitMask => exact RoundTrip.readGcBitMask
  | writeCrtcHorzTotal v => exact RoundTrip.writeCrtcHorzTotal v
  | readCrtcHorzTotal => exact RoundTrip.readCrtcHorzTotal
  | writeCrtcEndHorzDisp v => exact RoundTrip.writeCrtcEndHorzDisp v
  | readCrtcEndHorzDisp => exact RoundTrip.readCrtcEndHorzDisp
  | writeCrtcStartHorzBlank v => exact RoundTrip.writeCrtcStartHorzBlank v
  | readCrtcStartHorzBlank => exact RoundTrip.readCrtcStartHorzBlank
  | writeCrtcEndHorzBlank v => exact RoundTrip.writeCrtcEndHorzBlank v
  | readCrtcEndHorzBlank => exact RoundTrip.readCrtcEndHorzBlank
  | writeCrtcStartHorzRetrace v => exact RoundTrip.writeCrtcStartHorzRetrace v
  | readCrtcStartHorzRetrace => exact RoundTrip.readCrtcStartHorzRetrace
  | writeCrtcEndHorzRetrace v => exact RoundTrip.writeCrtcEndHorzRetrace v
  | readCrtcEndHorzRetrace => exact RoundTrip.readCrtcEndHorzRetrace
  | writeCrtcVertTotal v => exact RoundTrip.writeCrtcVertTotal v
  | readCrtcVertTotal => exact RoundTrip.readCrtcVertTotal
  | writeCrtcOverflow v => exact RoundTrip.writeCrtcOverflow v
  | readCrtcOverflow => exact RoundTrip.readCrtcOverflow
  | writeCrtcPresetRowScan v => exact RoundTrip.writeCrtcPresetRowScan v
  | readCrtcPresetRowScan => exact RoundTrip.readCrtcPresetRowScan
  | writeCrtcMaxScan v => exact RoundTrip.writeCrtcMaxScan v
  | readCrtcMaxScan => exact RoundTrip.readCrtcMaxScan
  | writeCrtcCursorStart v => exact RoundTrip.writeCrtcCursorStart v
  | readCrtcCursorStart => exact RoundTrip.readCrtcCursorStart
  | writeCrtcCursorEnd v => exact RoundTrip.writeCrtcCursorEnd v
  | readCrtcCursorEnd => exact RoundTrip.readCrtcCursorEnd
  | writeCrtcStartHigh v => exact RoundTrip.writeCrtcStartHigh v
  | readCrtcStartHigh => exact RoundTrip.readCrtcStartHigh
  | writeCrtcStartLow v => exact RoundTrip.writeCrtcStartLow v
  | readCrtcStartLow => exact RoundTrip.readCrtcStartLow
  | writeCrtcCursorLocHigh v => exact RoundTrip.writeCrtcCursorLocHigh v
  | readCrtcCursorLocHigh => exact RoundTrip.readCrtcCursorLocHigh
  | writeCrtcCursorLocLow v => exact RoundTrip.writeCrtcCursorLocLow v
  | readCrtcCursorLocLow => exact RoundTrip.readCrtcCursorLocLow
  | writeCrtcVertRetraceStart v => exact RoundTrip.writeCrtcVertRetraceStart v
  | readCrtcVertRetraceStart => exact RoundTrip.readCrtcVertRetraceStart
  | writeCrtcVertRetraceEnd v => exact RoundTrip.writeCrtcVertRetraceEnd v
  | readCrtcVertRetraceEnd => exact RoundTrip.readCrtcVertRetraceEnd
  | writeCrtcVertDispEnd v => exact RoundTrip.writeCrtcVertDispEnd v
  | readCrtcVertDispEnd => exact RoundTrip.readCrtcVertDispEnd
  | writeCrtcOffset v => exact RoundTrip.writeCrtcOffset v
  | readCrtcOffset => exact RoundTrip.readCrtcOffset
  | writeCrtcUnderline v => exact RoundTrip.writeCrtcUnderline v
  | readCrtcUnderline => exact RoundTrip.readCrtcUnderline
  | writeCrtcStartVertBlank v => exact RoundTrip.writeCrtcStartVertBlank v
  | readCrtcStartVertBlank => exact RoundTrip.readCrtcStartVertBlank
  | writeCrtcEndVertBlank v => exact RoundTrip.writeCrtcEndVertBlank v
  | readCrtcEndVertBlank => exact RoundTrip.readCrtcEndVertBlank
  | writeCrtcMode v => exact RoundTrip.writeCrtcMode v
  | readCrtcMode => exact RoundTrip.readCrtcMode
  | writeCrtcLineCompare v => exact RoundTrip.writeCrtcLineCompare v
  | readCrtcLineCompare => exact RoundTrip.readCrtcLineCompare
  | writeAcPal0 v => exact RoundTrip.writeAcPal0 v
  | readAcPal0 => exact RoundTrip.readAcPal0
  | writeAcPal1 v => exact RoundTrip.writeAcPal1 v
  | readAcPal1 => exact RoundTrip.readAcPal1
  | writeAcPal2 v => exact RoundTrip.writeAcPal2 v
  | readAcPal2 => exact RoundTrip.readAcPal2
  | writeAcPal3 v => exact RoundTrip.writeAcPal3 v
  | readAcPal3 => exact RoundTrip.readAcPal3
  | writeAcPal4 v => exact RoundTrip.writeAcPal4 v
  | readAcPal4 => exact RoundTrip.readAcPal4
  | writeAcPal5 v => exact RoundTrip.writeAcPal5 v
  | readAcPal5 => exact RoundTrip.readAcPal5
  | writeAcPal6 v => exact RoundTrip.writeAcPal6 v
  | readAcPal6 => exact RoundTrip.readAcPal6
  | writeAcPal7 v => exact RoundTrip.writeAcPal7 v
  | readAcPal7 => exact RoundTrip.readAcPal7
  | writeAcPal8 v => exact RoundTrip.writeAcPal8 v
  | readAcPal8 => exact RoundTrip.readAcPal8
  | writeAcPal9 v => exact RoundTrip.writeAcPal9 v
  | readAcPal9 => exact RoundTrip.readAcPal9
  | writeAcPal10 v => exact RoundTrip.writeAcPal10 v
  | readAcPal10 => exact RoundTrip.readAcPal10
  | writeAcPal11 v => exact RoundTrip.writeAcPal11 v
  | readAcPal11 => exact RoundTrip.readAcPal11
  | writeAcPal12 v => exact RoundTrip.writeAcPal12 v
  | readAcPal12 => exact RoundTrip.readAcPal12
  | writeAcPal13 v => exact RoundTrip.writeAcPal13 v
  | readAcPal13 => exact RoundTrip.readAcPal13
  | writeAcPal14 v => exact RoundTrip.writeAcPal14 v
  | readAcPal14 => exact RoundTrip.readAcPal14
  | writeAcPal15 v => exact RoundTrip.writeAcPal15 v
  | readAcPal15 => exact RoundTrip.readAcPal15
  | writeAcMode v => exact RoundTrip.writeAcMode v
  | readAcMode => exact RoundTrip.readAcMode
  | writeAcOverscan v => exact RoundTrip.writeAcOverscan v
  | readAcOverscan => exact RoundTrip.readAcOverscan
  | writeAcPlaneEnable v => exact RoundTrip.writeAcPlaneEnable v
  | readAcPlaneEnable => exact RoundTrip.readAcPlaneEnable
  | writeAcPanning v => exact RoundTrip.writeAcPanning v
  | readAcPanning => exact RoundTrip.readAcPanning
  | writeAcColorSelect v => exact RoundTrip.writeAcColorSelect v
  | readAcColorSelect => exact RoundTrip.readAcColorSelect
  | memw address bytes => exact RoundTrip.memw address bytes
  | memr address length buf => exact RoundTrip.memr address length buf
  | refresh => exact RoundTrip.refresh
  | hretrace => exact RoundTrip.hretrace
  | vretrace => exact RoundTrip.vretrace
  | res => exact RoundTrip.res
  | istext => exact RoundTrip.istext
  | takedirty => exact RoundTrip.takedirty
  | surf element => exact RoundTrip.surf element
  | cursor => exact RoundTrip.cursor
  | seed x => exact RoundTrip.seed x

/-- Settles O1, by cases on the constructor of the operation. -/
theorem decodeEncodeRoundTrip : Obligations.DecodeEncodeRoundTrip := roundTrip

/-- Settles O2: each word is a closed computation of the decoder. -/
theorem decodeReadsWrittenBytes : Obligations.DecodeReadsWrittenBytes := by
  unfold Obligations.DecodeReadsWrittenBytes
  decide

/-! ### Ports (R121, decision D17) -/

/-- Settles O3: the lookup compares whole port numbers, and it finds every port of the table. -/
theorem portDecodeIsExact : Obligations.PortDecodeIsExact := by
  intro p n
  constructor
  · intro h
    exact (beq_iff_eq.1 (List.find?_some (p := fun m => Config.portNumber m == p) h)).symm
  · rintro rfl
    exact portNamed_portNumber n

/-- A number that is no port's names none. -/
theorem portNamed_eq_none {p : Port} (h : ∀ n, p ≠ Config.portNumber n) : portNamed p = none :=
  Option.eq_none_iff_forall_ne_some.2 fun n hn => h n ((portDecodeIsExact p n).1 hn)

/-- The two bytes of any 16-bit number, put together again. -/
theorem highByte_append_lowByte (p : Port) : p.extractLsb' 8 8 ++ p.extractLsb' 0 8 = p := by
  rw [BitVec.extractLsb'_append_extractLsb'_eq_extractLsb' (by rfl), BitVec.extractLsb'_eq_self]

/-- A byte write to a port of another device (R128). -/
theorem decode_write_of_unclaimed {p : Port} (h : ∀ n, p ≠ Config.portNumber n) (v : Byte) (rest : List Byte) :
    decode (p.extractLsb' 0 8 :: p.extractLsb' 8 8 :: 0x00 :: v :: rest) = .error (.unclaimedPort p) := by
  simp [decode, formOf, decodeOperands, onPort, highByte_append_lowByte, portNamed_eq_none h]

/-- A byte read of a port of another device (R128). -/
theorem decode_read_of_unclaimed {p : Port} (h : ∀ n, p ≠ Config.portNumber n) (rest : List Byte) :
    decode (p.extractLsb' 0 8 :: p.extractLsb' 8 8 :: 0x03 :: rest) = .error (.unclaimedPort p) := by
  simp [decode, formOf, decodeOperands, onPort, highByte_append_lowByte, portNamed_eq_none h]

/-! ### The step -/

theorem fetch_of_decode_ok {bs rest : List Byte} {i : Instr} (h : decode bs = .ok (i, rest)) : fetch bs = .operation i rest := by
  cases bs with
  | nil => simp [decode] at h
  | cons b bs => simp only [fetch, h]

theorem fetch_of_decode_error {b : Byte} {bs : List Byte} {e : DecodeError} (h : decode (b :: bs) = .error e) :
    fetch (b :: bs) = .stop (refusalOf e) := by
  simp only [fetch, h]

theorem step_of_idle {s : State} (h : fetch s.pending = .idle) : step s = .next s := by
  simp only [step, h]

theorem step_of_operation {s : State} {i : Instr} {rest : List Byte} (h : fetch s.pending = .operation i rest) :
    step s = exec i { s with pending := rest } := by
  simp only [step, h]

theorem step_of_stop {s : State} {r : Refusal} (h : fetch s.pending = .stop r) : step s = .refused r := by
  simp only [step, h]

/-- Settles O4: the fetch takes the operation decoded and leaves the rest. -/
theorem stepRunsDecodedOperation : Obligations.StepRunsDecodedOperation :=
  fun _ _ _ _ h => step_of_operation (fetch_of_decode_ok h)

/-- Settles O5: with nothing pending the fetch is idle. -/
theorem idleStepChangesNothing : Obligations.IdleStepChangesNothing := by
  intro s h
  exact step_of_idle (by rw [h]; rfl)

/-- Settles O6: either access fails to decode at the port's name. -/
theorem unclaimedPortAccessIsRefused : Obligations.UnclaimedPortAccessIsRefused := by
  intro s p v rest h
  exact ⟨step_of_stop (fetch_of_decode_error (decode_write_of_unclaimed h v rest)),
    step_of_stop (fetch_of_decode_error (decode_read_of_unclaimed h rest))⟩

end Sys2Proof.Proofs

/-! Who writes what (R33 to R42, R226, R341), the invariant kept by every step (R38, R44, R45, R308, R364), reset (R60 to R66) and the
end of the session (R365): each is read off the effects of `exec_effect`. -/

namespace Sys2Proof.Proofs

open Sys2Proof Sys2Proof.Machine Sys2Proof.Laws

/-! ### The composed updates as record updates -/

theorem writeMemory_update (d : Device) (a : Addr) (bs : List Byte) :
    d.writeMemory a bs = { d with planes := (d.writeMemory a bs).planes } := by
  obtain ⟨m, h⟩ := writeMemory_setPlanes d a bs
  rw [h]
  rfl

theorem dacDataWrite_update (d : Device) (v : Byte) :
    d.dacDataWrite v =
      { d with
        dac := (d.dacDataWrite v).dac
        dacIndex := (d.dacDataWrite v).dacIndex
        paletteChanged := (d.dacDataWrite v).paletteChanged } := by
  unfold Device.dacDataWrite
  split <;> rfl

/-! ### The retrace flags and the AC latch -/

theorem effect_retraceFlags {d d' : Device} {n : Nat} {i : Instr} (e : DeviceEffect d n i d') :
    (d'.hRetrace = d.hRetrace ∧ d'.vRetrace = d.vRetrace) ∨
      (i = .hretrace ∧ d'.hRetrace = true ∧ d'.vRetrace = d.vRetrace) ∨
      (i = .vretrace ∧ d'.hRetrace = d.hRetrace ∧ d'.vRetrace = true) ∨ i = .inPortStatus := by
  cases e with
  | hretrace => exact .inr (.inl ⟨rfl, rfl, rfl⟩)
  | vretrace => exact .inr (.inr (.inl ⟨rfl, rfl, rfl⟩))
  | status => exact .inr (.inr (.inr rfl))
  | acWrite i v => exact .inl ⟨by rw [acWrite_eq], by rw [acWrite_eq]⟩
  | dacDataWrite v => exact .inl ⟨by rw [dacDataWrite_update], by rw [dacDataWrite_update]⟩
  | memw a bs => exact .inl ⟨by rw [writeMemory_update], by rw [writeMemory_update]⟩
  | refresh => exact .inl ⟨by rw [refresh_update], by rw [refresh_update]⟩
  | _ => exact .inl ⟨rfl, rfl⟩

/-- Settles O12: an effect on a flag is its signal's, which sets it, or the status read's. -/
theorem retraceFlagWriters : Obligations.RetraceFlagWriters := by
  intro i s t h
  obtain ⟨-, -, e⟩ := exec_effect h
  obtain ⟨hh, hv⟩ | ⟨rfl, hh, hv⟩ | ⟨rfl, hh, hv⟩ | rfl := effect_retraceFlags e
  · exact ⟨fun _ _ => hh, fun _ _ => hv, fun _ => ⟨hh.trans, hv.trans⟩⟩
  · exact ⟨fun hi => absurd rfl hi, fun _ _ => hv, fun _ => ⟨fun _ => hh, hv.trans⟩⟩
  · exact ⟨fun _ _ => hh, fun hi => absurd rfl hi, fun _ => ⟨hh.trans, fun _ => hv⟩⟩
  · exact ⟨fun _ hi => absurd rfl hi, fun _ hi => absurd rfl hi, fun hi => absurd rfl hi⟩

theorem effect_acLatch {d d' : Device} {n : Nat} {i : Instr} (e : DeviceEffect d n i d') :
    d'.acLatch = d.acLatch ∨ (∃ v, i = .outPortAcIndexData v ∨ ∃ k, i = acWriteRow k v) ∨ i = .inPortStatus := by
  cases e with
  | acWrite i v h => exact .inr (.inl ⟨v, h⟩)
  | status => exact .inr (.inr rfl)
  | dacDataWrite v => exact .inl (by rw [dacDataWrite_update])
  | memw a bs => exact .inl (by rw [writeMemory_update])
  | refresh => exact .inl (by rw [refresh_update])
  | _ => exact .inl rfl

/-- Settles O13: the effects that reach the latch are those of the operations the statement sets aside. -/
theorem acLatchWriters : Obligations.AcLatchWriters := by
  intro i s t h hport hrow hstatus
  obtain ⟨-, -, e⟩ := exec_effect h
  obtain h | ⟨v, rfl | ⟨k, rfl⟩⟩ | rfl := effect_acLatch e
  · exact h
  · exact absurd rfl (hport v)
  · exact absurd rfl (hrow k v)
  · exact absurd rfl hstatus

/-! ### The DAC -/

theorem effect_dacState {d d' : Device} {n : Nat} {i : Instr} (e : DeviceEffect d n i d') :
    (d'.dac = d.dac ∧ d'.dacDir = d.dacDir ∧ d'.dacIndex = d.dacIndex) ∨
      (∃ v, (i = .outPortDacReadIndex v ∨ i = .outPortDacWriteIndex v) ∧ d'.dac = d.dac) ∨
      (∃ v, i = .outPortDacData v ∧ d'.dacDir = d.dacDir) ∨
      (i = .inPortDacData ∧ d'.dac = d.dac ∧ d'.dacDir = d.dacDir) := by
  cases e with
  | dacReadIndex v => exact .inr (.inl ⟨v, .inl rfl, rfl⟩)
  | dacWriteIndex v => exact .inr (.inl ⟨v, .inr rfl, rfl⟩)
  | dacDataWrite v => exact .inr (.inr (.inl ⟨v, rfl, by rw [dacDataWrite_update]⟩))
  | dacDataRead => exact .inr (.inr (.inr ⟨rfl, rfl, rfl⟩))
  | acWrite i v => exact .inl ⟨by rw [acWrite_eq], by rw [acWrite_eq], by rw [acWrite_eq]⟩
  | memw a bs => exact .inl ⟨by rw [writeMemory_update], by rw [writeMemory_update], by rw [writeMemory_update]⟩
  | refresh => exact .inl ⟨by rw [refresh_update], by rw [refresh_update], by rw [refresh_update]⟩
  | _ => exact .inl ⟨rfl, rfl, rfl⟩

/-- Settles O14: the DAC's four ports are the only operations with an effect on its state, each on its own part. -/
theorem dacWriters : Obligations.DacWriters := by
  intro i s t h
  obtain ⟨-, -, e⟩ := exec_effect h
  obtain ⟨hdac, hdir, hindex⟩ | ⟨v, rfl | rfl, hdac⟩ | ⟨v, rfl, hdir⟩ | ⟨rfl, hdac, hdir⟩ := effect_dacState e
  · exact ⟨fun _ => hdac, fun _ _ => ⟨hdir, fun _ _ => hindex⟩⟩
  · exact ⟨fun _ => hdac, fun hread _ => absurd rfl (hread v)⟩
  · exact ⟨fun _ => hdac, fun _ hwrite => absurd rfl (hwrite v)⟩
  · exact ⟨fun hdata => absurd rfl (hdata v), fun _ _ => ⟨hdir, fun hdata => absurd rfl (hdata v)⟩⟩
  · exact ⟨fun _ => hdac, fun _ _ => ⟨hdir, fun _ hin => absurd rfl hin⟩⟩

/-! ### The host's operations (R341) -/

/-- Settles O15: the host's queries complete with the device they were issued at, the take with its own update. -/
theorem hostOperationsArePure : Obligations.HostOperationsArePure := by
  intro i s t h
  refine ⟨?_, ?_⟩
  · rintro (rfl | rfl | rfl | ⟨e, rfl⟩)
    · obtain ⟨-, rfl⟩ := complete_next.1 h
      rfl
    · obtain ⟨-, rfl⟩ := complete_next.1 h
      rfl
    · obtain ⟨-, -, hdev⟩ := effect_of_cursor h
      exact hdev
    · obtain ⟨-, -, hdev⟩ := effect_of_surf h
      exact hdev
  · rintro rfl
    obtain ⟨-, rfl⟩ := complete_next.1 h
    rfl

/-! ### The mode edge (R40) -/

theorem gcMarksMode_iff (i : Fin Config.gcCount) : gcMarksMode i = true ↔ i = 6 := by
  revert i
  decide

theorem crtcMarksMode_iff (i : Fin Config.crtcCount) : crtcMarksMode i = true ↔ i = 0x01 ∨ i = 0x07 ∨ i = 0x12 := by
  revert i
  decide

/-- No refresh leaves the edge (R284, R364). -/
theorem refresh_modeChanged (d : Device) (ok : Bool) : (d.refresh ok).1.modeChanged = false := by
  obtain ⟨h, e⟩ | ⟨-, -, e⟩ | ⟨-, -, e⟩ := refresh_cases d ok
  · obtain ⟨-, -, -, -, -, hm, -, -⟩ := renderPass_regs d
    have hd : d.modeChanged = false := by
      by_contra hd
      simp [Device.reallocNeeded, hd] at h
    rw [e, Device.endRefresh_modeChanged, hm, hd]
  · obtain ⟨-, -, -, -, -, hm, -, -⟩ := renderPass_regs d.reallocate
    rw [e, Device.endRefresh_modeChanged, hm, Device.reallocate_modeChanged]
  · rw [e, Device.raiseFatal_modeChanged]

theorem effect_modeChanged {d d' : Device} {n : Nat} {i : Instr} (e : DeviceEffect d n i d') :
    d'.modeChanged = d.modeChanged ∨ ((∃ x, i = .seed x) ∧ d'.modeChanged = true) ∨
      (∃ v, (i = .outPortGcData v ∨ ∃ k, i = gcWriteRow k v) ∧ d'.modeChanged = (d.modeChanged || gcMarksMode d.gcIndex)) ∨
      (∃ v, (i = .outPortCrtcData v ∨ ∃ k, i = crtcWriteRow k v) ∧
        d'.modeChanged = (d.modeChanged || crtcMarksMode d.crtcIndex)) ∨
      (i = .refresh ∧ d'.modeChanged = false) := by
  cases e with
  | seed x => exact .inr (.inl ⟨⟨x, rfl⟩, rfl⟩)
  | gcData i v h => exact .inr (.inr (.inl ⟨v, h, rfl⟩))
  | crtcData i v h => exact .inr (.inr (.inr (.inl ⟨v, h, rfl⟩)))
  | refresh => exact .inr (.inr (.inr (.inr ⟨rfl, refresh_modeChanged d _⟩)))
  | acWrite i v => exact .inl (by rw [acWrite_eq])
  | dacDataWrite v => exact .inl (by rw [dacDataWrite_update])
  | memw a bs => exact .inl (by rw [writeMemory_update])
  | _ => exact .inl rfl

/-- Settles O16: a data write sets the edge only where its index register names a register that marks it, and only the refresh
has an effect that clears the edge. -/
theorem modeEdgeWriters : Obligations.ModeEdgeWriters := by
  intro i s t h
  obtain ⟨-, -, e⟩ := exec_effect h
  obtain hm | ⟨hi, hm⟩ | ⟨v, hi, hm⟩ | ⟨v, hi, hm⟩ | ⟨hi, hm⟩ := effect_modeChanged e
  · exact ⟨fun h0 h1 => by simp [hm, h0] at h1, fun h1 h0 => by simp [hm, h1] at h0⟩
  · exact ⟨fun _ _ => .inl hi, fun _ h0 => by simp [hm] at h0⟩
  · refine ⟨fun h0 h1 => .inr (.inl ⟨?_, ?_⟩), fun h1 h0 => by simp [hm, h1] at h0⟩
    · rwa [hm, h0, Bool.false_or, gcMarksMode_iff] at h1
    · exact hi.imp (fun hi => ⟨v, hi⟩) fun ⟨k, hi⟩ => ⟨k, v, hi⟩
  · refine ⟨fun h0 h1 => .inr (.inr ⟨?_, ?_⟩), fun h1 h0 => by simp [hm, h1] at h0⟩
    · rwa [hm, h0, Bool.false_or, crtcMarksMode_iff] at h1
    · exact hi.imp (fun hi => ⟨v, hi⟩) fun ⟨k, hi⟩ => ⟨k, v, hi⟩
  · exact ⟨fun _ h1 => by simp [hm] at h1, fun _ _ => hi⟩

/-! ### Regions inside a surface -/

/-- The region of all the elements of a grid; empty where the grid has none. -/
def gridRegion (g : Geometry) : DirtyRegion :=
  if 0 < g.width ∧ 0 < g.height then .rect 0 0 (g.width - 1) (g.height - 1) else .empty

theorem gridRegion_contains (g : Geometry) (i j : Nat) :
    (gridRegion g).contains i j = true ↔ i < g.height ∧ j < g.width := by
  unfold gridRegion
  split_ifs with h
  · rw [contains_rect]
    omega
  · simp only [DirtyRegion.contains, Bool.false_eq_true, false_iff]
    omega

/-- The invariant's clause on the dirty region, in the terms of the dirty-region law. -/
theorem within_iff {x : Surface} {g : Geometry} (hg : x.geometry = some g) (r : DirtyRegion) :
    r.within x = true ↔ Ordered r ∧ RegionLe r (gridRegion g) := by
  cases r with
  | empty => simp [DirtyRegion.within, Ordered, regionLe_empty]
  | rect l t r b =>
    simp only [DirtyRegion.within, hg, Ordered, Bool.and_eq_true, decide_eq_true_eq]
    constructor
    · rintro ⟨⟨⟨hlr, htb⟩, hr⟩, hb⟩
      refine ⟨⟨hlr, htb⟩, (rect_le_iff ⟨hlr, htb⟩ _).2 ?_⟩
      simp only [gridRegion_contains]
      omega
    · rintro ⟨⟨hlr, htb⟩, hle⟩
      have hcorners := (rect_le_iff ⟨hlr, htb⟩ _).1 hle
      simp only [gridRegion_contains] at hcorners
      omega

theorem geometry_eq_none (x : Surface) : x.geometry = none ↔ x = .none := by
  cases x <;> simp [Surface.geometry]

theorem ordered_of_within {x : Surface} {r : DirtyRegion} (h : r.within x = true) : Ordered r := by
  cases hg : x.geometry with
  | some g => exact ((within_iff hg r).1 h).1
  | none =>
    cases r with
    | empty => trivial
    | rect l t r b => simp [DirtyRegion.within, hg] at h

/-- The pass widens the dirty region by elements of the grid alone (R306). -/
theorem renderPass_within {d : Device} (hw : d.surface.wf = true) (hd : d.dirty.within d.surface = true) :
    d.renderPass.dirty.within d.renderPass.surface = true := by
  cases hg : d.surface.geometry with
  | none => rwa [renderPass_of_none ((geometry_eq_none _).1 hg)]
  | some g =>
    obtain ⟨ho, hle⟩ := (within_iff hg _).1 hd
    refine (within_iff ((renderPass_geometry d).trans hg) _).2 ⟨renderPass_ordered ho, ?_⟩
    exact (renderPass_le_iff hw ho hg _).2 ⟨hle, fun i j hi hj _ => (gridRegion_contains g i j).2 ⟨hi, hj⟩⟩

/-! ### The invariant -/

/-- `d'` has the picture of `d` (surface, dirty region, repaint flag), the session as it was, and no edge lost. -/
structure KeepsPicture (d d' : Device) : Prop where
  surface : d'.surface = d.surface
  dirty : d'.dirty = d.dirty
  repaintPending : d'.repaintPending = d.repaintPending
  fatal : d'.fatal = d.fatal
  modeChanged : d.modeChanged = true → d'.modeChanged = true

/-- While the session is on, an operation that keeps the picture and canonical planes keeps the invariant. -/
theorem inv_of_keepsPicture {d d' : Device} (hd : d.Inv) (halive : d.fatal = false) (hp : d'.planes.wf = true)
    (hk : KeepsPicture d d') : d'.Inv where
  planes := hp
  surface := by rw [hk.surface, hd.surface]
  dirty := by rw [hk.dirty, hk.surface, hd.dirty]
  flagged := by rw [hk.dirty, hk.repaintPending]; exact hd.flagged
  ended := by rw [hk.fatal, halive]; exact nofun
  absent := by
    rw [hk.surface, hk.fatal]
    exact fun hs => (hd.absent hs).imp_right hk.modeChanged

/-- The pass and the end of the refresh keep the invariant: the latter flags what the former made dirty. -/
theorem pass_inv {d : Device} (hd : d.Inv) : d.renderPass.endRefresh.Inv := by
  obtain ⟨-, -, -, -, hplanes, hmode, hfatal, -⟩ := renderPass_regs d
  have hnone : d.renderPass.surface = .none ↔ d.surface = .none := by
    rw [← geometry_eq_none, renderPass_geometry, geometry_eq_none]
  constructor
  case planes => rw [Device.endRefresh_planes, hplanes, hd.planes]
  case surface => rw [Device.endRefresh_surface]; exact renderPass_wf hd.surface
  case dirty => rw [Device.endRefresh_dirty, Device.endRefresh_surface]; exact renderPass_within hd.surface hd.dirty
  case flagged =>
    intro h
    simp only [Device.endRefresh_dirty] at h
    simp [h]
  case ended => simpa [hfatal, hmode, hnone] using hd.ended
  case absent => simpa [hfatal, hmode, hnone] using hd.absent

theorem reallocate_inv {d : Device} (hp : d.planes.wf = true) (halive : d.fatal = false) : d.reallocate.Inv where
  planes := by rw [Device.reallocate_planes, hp]
  surface := blank_wf _
  dirty := rfl
  flagged := fun h => absurd rfl h
  ended := by rw [Device.reallocate_fatal, halive]; exact nofun
  absent := fun h => by
    rw [Device.reallocate_surface, ← geometry_eq_none, blank_geometry] at h
    exact nomatch h

theorem raiseFatal_inv {d : Device} (hp : d.planes.wf = true) : d.raiseFatal.Inv where
  planes := by rw [Device.raiseFatal_planes, hp]
  surface := rfl
  dirty := rfl
  flagged := fun h => absurd rfl h
  ended := fun _ => ⟨rfl, rfl⟩
  absent := fun _ => .inl rfl

theorem refresh_inv {d : Device} (hd : d.Inv) (halive : d.fatal = false) (ok : Bool) : (d.refresh ok).1.Inv := by
  obtain ⟨-, e⟩ | ⟨-, -, e⟩ | ⟨-, -, e⟩ := refresh_cases d ok <;> rw [e]
  · exact pass_inv hd
  · exact pass_inv (reallocate_inv hd.planes halive)
  · exact raiseFatal_inv hd.planes

/-- Every effect keeps the invariant: the planes are written by `memw`, the picture by the refresh and the take alone. -/
theorem effect_inv {d d' : Device} {n : Nat} {i : Instr} (hd : d.Inv) (halive : d.fatal = false) (e : DeviceEffect d n i d') :
    d'.Inv := by
  cases e with
  | memw a bs =>
    obtain ⟨m, h, hm⟩ := writeMemory_planes d a bs hd.planes
    rw [h]
    exact inv_of_keepsPicture hd halive hm ⟨rfl, rfl, rfl, rfl, id⟩
  | refresh => exact refresh_inv hd halive _
  | takedirty => exact ⟨hd.planes, hd.surface, rfl, fun h => absurd rfl h, hd.ended, hd.absent⟩
  | gcData i v => exact inv_of_keepsPicture hd halive hd.planes ⟨rfl, rfl, rfl, rfl, fun h => by simp [gcDataWrite_eq, h]⟩
  | crtcData i v => exact inv_of_keepsPicture hd halive hd.planes ⟨rfl, rfl, rfl, rfl, fun h => by simp [crtcDataWrite_eq, h]⟩
  | seed x => exact inv_of_keepsPicture hd halive hd.planes ⟨rfl, rfl, rfl, rfl, fun _ => rfl⟩
  | acWrite i v => rw [acWrite_eq]; exact inv_of_keepsPicture hd halive hd.planes ⟨rfl, rfl, rfl, rfl, id⟩
  | dacDataWrite v => rw [dacDataWrite_update]; exact inv_of_keepsPicture hd halive hd.planes ⟨rfl, rfl, rfl, rfl, id⟩
  | _ => exact inv_of_keepsPicture hd halive hd.planes ⟨rfl, rfl, rfl, rfl, id⟩

/-- Settles O9: a step that answers a next state is idle or has one of the effects. -/
theorem stepKeepsInvariant : Obligations.StepKeepsInvariant := by
  intro s t hs h
  cases hf : fetch s.pending with
  | idle =>
    obtain rfl : s = t := by simpa [step_of_idle hf] using h
    exact hs
  | operation i rest =>
    rw [step_of_operation hf] at h
    obtain ⟨halive, -, e⟩ := exec_effect h
    exact effect_inv hs halive e
  | stop r => simp [step_of_stop hf] at h

/-! ### Reset and the end of the session -/

/-- Settles O7: the reset state is a literal, and the planes list no byte. -/
theorem resetLeaves : Obligations.ResetLeaves :=
  ⟨rfl, rfl, rfl, rfl, rfl, rfl, rfl, fun _ _ => rfl, rfl⟩

/-- Settles O8: at reset there is no surface, with the mode edge set. -/
theorem resetMeetsInvariant : Obligations.ResetMeetsInvariant where
  planes := reset_planes_wf
  surface := rfl
  dirty := rfl
  flagged := fun h => absurd rfl h
  ended := fun h => nomatch h
  absent := fun _ => .inr rfl

/-- Every meaning runs in the one frame (R365). -/
theorem exec_eq_ifAlive (i : Instr) (s : State) : ∃ k, exec i s = ifAlive s k := by
  cases i with
  | inPortDacData =>
    rw [exec, execInPortDacData]
    split <;> exact ⟨_, rfl⟩
  | cursor =>
    rw [exec, execCursor]
    split_ifs <;> exact ⟨_, rfl⟩
  | _ => exact ⟨_, rfl⟩

/-- Settles O10: the frame of every meaning refuses. -/
theorem endedSessionRefusesEveryOperation : Obligations.EndedSessionRefusesEveryOperation := by
  intro i s h
  obtain ⟨k, hk⟩ := exec_eq_ifAlive i s
  rw [hk, ifAlive_of_fatal h]

end Sys2Proof.Proofs

/-! The ports of the indexed groups (R150 to R184) and the registers' own rows (R133): each completes with the device its named
operation gives, and a row is the port access it is written with (log entry 11). -/

namespace Sys2Proof.Proofs

open Sys2Proof Sys2Proof.Machine Sys2Proof.Laws

/-! ### The frame while the session is on -/

theorem complete_of_safe {s : State} (hs : Safe s) (d : Device) (a : Answer) :
    complete s d a = .next { s with dev := d, answer := a } :=
  complete_next.2 ⟨hs, rfl⟩

theorem completeOpenByte_of_safe {s : State} (hs : Safe s) :
    completeOpenByte s = .next { s with answer := .byte (Config.openByte s.draws), draws := s.draws + 1 } :=
  completeOpenByte_next.2 ⟨hs, rfl⟩

/-! ### The edges a data write leaves, as the registers that mark them -/

theorem crtcMarksCursor_iff (i : Fin Config.crtcCount) :
    crtcMarksCursor i = true ↔ i = 0x0A ∨ i = 0x0B ∨ i = 0x0E ∨ i = 0x0F := by
  revert i
  decide

/-- A flag that a mark sets and nothing clears. -/
theorem or_mark {p : Prop} [Decidable p] {mark : Bool} (h : mark = true ↔ p) (b : Bool) :
    (b || mark) = if p then true else b := by
  rw [← if_congr h rfl rfl]
  cases mark <;> simp

theorem or_gcMarksMode (b : Bool) (i : Fin Config.gcCount) : (b || gcMarksMode i) = if i = 6 then true else b :=
  or_mark (gcMarksMode_iff i) b

theorem or_crtcMarksMode (b : Bool) (i : Fin Config.crtcCount) :
    (b || crtcMarksMode i) = if i = 0x01 ∨ i = 0x07 ∨ i = 0x12 then true else b :=
  or_mark (crtcMarksMode_iff i) b

theorem or_crtcMarksCursor (b : Bool) (i : Fin Config.crtcCount) :
    (b || crtcMarksCursor i) = if i = 0x0A ∨ i = 0x0B ∨ i = 0x0E ∨ i = 0x0F then true else b :=
  or_mark (crtcMarksCursor_iff i) b

/-! ### The ports -/

/-- Settles O17: the three index writes complete with `selectIndex`. -/
theorem indexPortWrites : Obligations.IndexPortWrites := fun _ _ hs =>
  ⟨complete_of_safe hs _ _, complete_of_safe hs _ _, complete_of_safe hs _ _⟩

/-- Settles O18: the four index reads complete with the device as it was. -/
theorem indexPortReads : Obligations.IndexPortReads := fun _ hs =>
  ⟨complete_of_safe hs _ _, complete_of_safe hs _ _, complete_of_safe hs _ _, complete_of_safe hs _ _⟩

/-- Settles O19: the write completes with SEQ WriteData's device. -/
theorem seqDataPortWrite : Obligations.SeqDataPortWrite := fun _ _ hs => complete_of_safe hs _ _

/-- Settles O20: GC WriteData marks the edge for register 6 alone. -/
theorem gcDataPortWrite : Obligations.GcDataPortWrite := by
  intro v s hs
  rw [exec_outPortGcData v hs, gcDataWrite_eq, or_gcMarksMode]
  rfl

theorem exec_outPortCrtcData (v : Byte) {s : State} (hs : Safe s) :
    exec (.outPortCrtcData v) s = .next { s with dev := s.dev.crtcDataWrite v, answer := .none } :=
  complete_of_safe hs _ _

/-- Settles O22: CRTC WriteData marks either edge for its own registers alone. -/
theorem crtcDataPortWrite : Obligations.CrtcDataPortWrite := by
  intro v s hs
  rw [exec_outPortCrtcData v hs, crtcDataWrite_eq, or_crtcMarksMode, or_crtcMarksCursor]
  rfl

theorem exec_outPortAcIndexData (v : Byte) {s : State} (hs : Safe s) :
    exec (.outPortAcIndexData v) s = .next { s with dev := s.dev.acWrite v, answer := .none } :=
  complete_of_safe hs _ _

/-- Settles O23, by the two values of the latch in the AC write's device. -/
theorem acPortWrite : Obligations.AcPortWrite := by
  intro v s hs
  rw [exec_outPortAcIndexData v hs, acWrite_eq]
  exact ⟨fun h => by simp only [h]; rfl, fun h => by simp only [h]; rfl⟩

/-- Settles O24: the four data reads complete with the device as it was. -/
theorem dataPortReads : Obligations.DataPortReads := fun _ hs =>
  ⟨complete_of_safe hs _ _, complete_of_safe hs _ _, complete_of_safe hs _ _, complete_of_safe hs _ _⟩

/-! ### The registers' own rows -/

/-- Settles O29: whatever the index register holds, a row's update is the data port's and a row's byte the selected register. -/
theorem registerRowsAreThePortAccess : Obligations.RegisterRowsAreThePortAccess := by
  intro v s
  refine ⟨fun n => ⟨?_, ?_⟩, fun n => ⟨?_, ?_⟩, fun n => ⟨?_, ?_⟩, fun n => ⟨?_, ?_⟩⟩
  · rw [exec_seqWriteRow, seqRowWrite_eq]; rfl
  · rw [exec_seqReadRow, readRow_eq]; rfl
  · rw [exec_gcWriteRow, gcRowWrite_eq]; rfl
  · rw [exec_gcReadRow, readRow_eq]; rfl
  · rw [exec_crtcWriteRow, crtcRowWrite_eq]; rfl
  · rw [exec_crtcReadRow, readRow_eq]; rfl
  · rw [exec_acWriteRow, acRowWrite_eq]; rfl
  · rw [exec_acReadRow, readRow_eq]; rfl

/-- Settles O25: the rows are the accesses to PORT_SEQ_DATA, which reach register `n` while the index register holds `n`. -/
theorem seqRegisterRows : Obligations.SeqRegisterRows := by
  rintro n v s hs rfl
  obtain ⟨hseq, -, -, -⟩ := registerRowsAreThePortAccess v s
  obtain ⟨hwrite, hread⟩ := hseq s.dev.seqIndex
  obtain ⟨hbyte, -, -, -⟩ := dataPortReads s hs
  exact ⟨hwrite.trans (seqDataPortWrite v s hs), hread.trans hbyte⟩

/-- Settles O26: the rows are the accesses to PORT_GC_DATA. -/
theorem gcRegisterRows : Obligations.GcRegisterRows := by
  rintro n v s hs rfl
  obtain ⟨-, hgc, -, -⟩ := registerRowsAreThePortAccess v s
  obtain ⟨hwrite, hread⟩ := hgc s.dev.gcIndex
  obtain ⟨-, hbyte, -, -⟩ := dataPortReads s hs
  exact ⟨hwrite.trans (gcDataPortWrite v s hs), hread.trans hbyte⟩

/-- Settles O27: the rows are the accesses to PORT_CRTC_DATA. -/
theorem crtcRegisterRows : Obligations.CrtcRegisterRows := by
  rintro n v s hs rfl
  obtain ⟨-, -, hcrtc, -⟩ := registerRowsAreThePortAccess v s
  obtain ⟨hwrite, hread⟩ := hcrtc s.dev.crtcIndex
  obtain ⟨-, -, hbyte, -⟩ := dataPortReads s hs
  exact ⟨hwrite.trans (crtcDataPortWrite v s hs), hread.trans hbyte⟩

/-- Settles O28: the rows are the write to PORT_AC_INDEX_DATA, in its data phase, and the read of PORT_AC_READ. -/
theorem acRegisterRows : Obligations.AcRegisterRows := by
  rintro n v s hs rfl
  obtain ⟨-, -, -, hac⟩ := registerRowsAreThePortAccess v s
  obtain ⟨hwrite, hread⟩ := hac s.dev.acIndex
  obtain ⟨-, -, -, hbyte⟩ := dataPortReads s hs
  obtain ⟨-, hdata⟩ := acPortWrite v s hs
  exact ⟨fun hlatch => hwrite.trans (hdata hlatch), hread.trans hbyte⟩

end Sys2Proof.Proofs

/-! The ports without an index (R127, R200 to R226): the ignored directions, Misc, the DAC with its rotating index, the status port and
the two retrace signals. -/

namespace Sys2Proof.Proofs

open Sys2Proof Sys2Proof.Machine Sys2Proof.Laws

/-- Settles O30: ignored writes complete with the device as it was, open reads draw one byte. -/
theorem unusedPortDirections : Obligations.UnusedPortDirections := fun _ _ hs =>
  ⟨complete_of_safe hs _ _, complete_of_safe hs _ _, complete_of_safe hs _ _, completeOpenByte_of_safe hs,
    completeOpenByte_of_safe hs⟩

/-- Settles O31: the two ports of the one register. -/
theorem miscPorts : Obligations.MiscPorts := fun _ _ hs => ⟨complete_of_safe hs _ _, complete_of_safe hs _ _⟩

/-! ### The DAC -/

/-- Settles O32: both index writes complete with `dacEntryStart`, which is three times the entry. -/
theorem dacIndexPorts : Obligations.DacIndexPorts := fun _ _ hs =>
  ⟨⟨_, complete_of_safe hs _ _, rfl, rfl⟩, ⟨_, complete_of_safe hs _ _, rfl, rfl⟩, complete_of_safe hs _ _⟩

theorem exec_outPortDacData (v : Byte) {s : State} (hs : Safe s) :
    exec (.outPortDacData v) s = .next { s with dev := s.dev.dacDataWrite v, answer := .none } :=
  complete_of_safe hs _ _

/-- Settles O33, by the two directions of the DAC data write. -/
theorem dacDataPortWrite : Obligations.DacDataPortWrite := by
  intro v s hs
  rw [exec_outPortDacData v hs]
  refine ⟨fun h => ?_, fun h => ?_⟩
  · rw [dacDataWrite_of_write v h]
    exact ⟨_, rfl, rfl, rfl⟩
  · rw [dacDataWrite_of_read v h]

theorem exec_inPortDacData_of_read {s : State} (h : s.dev.dacDir = .read) :
    exec .inPortDacData s = complete s (s.dev.setDacIndex (dacNext s.dev.dacIndex)) (.byte s.dev.dac[s.dev.dacIndex]) := by
  simp only [exec, execInPortDacData, h]

theorem exec_inPortDacData_of_write {s : State} (h : s.dev.dacDir = .write) :
    exec .inPortDacData s = completeOpenByte s := by
  simp only [exec, execInPortDacData, h]

/-- Settles O34, by the two directions. -/
theorem dacDataPortRead : Obligations.DacDataPortRead := by
  intro s hs
  refine ⟨fun h => ?_, fun h => ?_⟩
  · exact ⟨_, (exec_inPortDacData_of_read h).trans (complete_of_safe hs _ _), rfl, rfl⟩
  · exact (exec_inPortDacData_of_write h).trans (completeOpenByte_of_safe hs)

/-! ### The rotating index (R208) -/

/-- The place of the palette `k` places after index `i`. -/
def dacPlace (i : Fin Config.paletteSize) (k : Nat) : Fin Config.paletteSize :=
  ⟨(i.val + k) % Config.paletteSize, Nat.mod_lt _ (by decide)⟩

theorem dacPlace_zero (i : Fin Config.paletteSize) : dacPlace i 0 = i := Fin.ext (Nat.mod_eq_of_lt i.isLt)

theorem dacPlace_paletteSize (i : Fin Config.paletteSize) : dacPlace i Config.paletteSize = i :=
  Fin.ext ((Nat.add_mod_right _ _).trans (Nat.mod_eq_of_lt i.isLt))

theorem dacPlace_dacNext (i : Fin Config.paletteSize) (k : Nat) : dacPlace (dacNext i) k = dacPlace i (k + 1) := by
  ext
  simp only [dacPlace, dacNext, Config.paletteSize]
  omega

/-- Fewer than a whole turn of writes does not come back to the index. -/
theorem dacPlace_ne {i : Fin Config.paletteSize} {k : Nat} (hk : k + 1 < Config.paletteSize) : i ≠ dacPlace i (k + 1) := by
  intro h
  have hval : i.val = (i.val + (k + 1)) % Config.paletteSize := congrArg Fin.val h
  simp only [Config.paletteSize] at hk hval
  omega

section
variable {d : Device} (v : Byte) (hd : d.dacDir = .write)
include hd

theorem dacDataWrite_dacDir_of_write : (d.dacDataWrite v).dacDir = .write := by rw [dacDataWrite_of_write v hd, hd]

theorem dacDataWrite_dacIndex_of_write : (d.dacDataWrite v).dacIndex = dacNext d.dacIndex := by rw [dacDataWrite_of_write v hd]

theorem dacDataWrite_dac_of_write : (d.dacDataWrite v).dac = putReg d.dac d.dacIndex v := by rw [dacDataWrite_of_write v hd]

theorem dacPlace_dacDataWrite (k : Nat) : dacPlace (d.dacDataWrite v).dacIndex k = dacPlace d.dacIndex (k + 1) := by
  rw [dacDataWrite_dacIndex_of_write v hd, dacPlace_dacNext]

end

/-- A run of writes in direction `Write`: the index advances once a byte, and a byte of the palette that none of them reaches keeps its
value. -/
theorem foldl_dacDataWrite_frame (vs : List Byte) : ∀ d : Device, d.dacDir = .write →
    (vs.foldl Device.dacDataWrite d).dacIndex = dacPlace d.dacIndex vs.length ∧
    ∀ p, (∀ k < vs.length, p ≠ dacPlace d.dacIndex k) → (vs.foldl Device.dacDataWrite d).dac[p] = d.dac[p] := by
  induction vs with
  | nil => exact fun d _ => ⟨(dacPlace_zero _).symm, fun _ _ => rfl⟩
  | cons v vs ih =>
    intro d hd
    obtain ⟨hindex, hframe⟩ := ih (d.dacDataWrite v) (dacDataWrite_dacDir_of_write v hd)
    simp only [dacPlace_dacDataWrite v hd, dacDataWrite_dac_of_write v hd] at hindex hframe
    refine ⟨hindex, fun p hp => ?_⟩
    have hp0 : p ≠ d.dacIndex := by simpa only [dacPlace_zero] using hp 0 (by simp)
    rw [List.foldl_cons, hframe p fun k hk => hp (k + 1) (by simpa using hk), putReg_get, if_neg hp0]

/-- A run of no more writes than the palette has bytes: the `k`-th byte stays `k` places after the start. -/
theorem foldl_dacDataWrite_get (vs : List Byte) : ∀ d : Device, d.dacDir = .write → vs.length ≤ Config.paletteSize →
    ∀ k (hk : k < vs.length), (vs.foldl Device.dacDataWrite d).dac[dacPlace d.dacIndex k] = vs[k] := by
  induction vs with
  | nil => exact fun _ _ _ k hk => absurd hk (Nat.not_lt_zero k)
  | cons v vs ih =>
    intro d hd hlen k hk
    rw [List.length_cons] at hlen hk
    have hd' := dacDataWrite_dacDir_of_write v hd
    rcases k with _ | k
    · obtain ⟨-, hframe⟩ := foldl_dacDataWrite_frame vs (d.dacDataWrite v) hd'
      simp only [dacPlace_dacDataWrite v hd, dacDataWrite_dac_of_write v hd] at hframe
      simp only [dacPlace_zero, List.foldl_cons, List.getElem_cons_zero]
      rw [hframe _ fun k hk => dacPlace_ne (by omega), putReg_get_same]
    · have hrest := ih (d.dacDataWrite v) hd' (by omega) k (by omega)
      simp only [dacPlace_dacDataWrite v hd] at hrest
      rw [List.foldl_cons, hrest, List.getElem_cons_succ]

/-- Settles O35: the run of 768 bytes is one whole turn. -/
theorem dacIndexWraps : Obligations.DacIndexWraps := by
  intro d vs hd
  have hlen : vs.toList.length = Config.paletteSize := vs.length_toList
  obtain ⟨hindex, -⟩ := foldl_dacDataWrite_frame vs.toList d hd
  refine ⟨by rw [hindex, hlen, dacPlace_paletteSize], fun k => ?_⟩
  exact (foldl_dacDataWrite_get vs.toList d hd hlen.le k.val (hlen.symm ▸ k.isLt)).trans (Vector.getElem_toList _)

/-! ### The status port and the signals -/

/-- The status byte's two bits (R220). -/
theorem statusByte_eq (h v : Bool) : statusByte h v = if v then 0x09 else if h then 0x01 else 0x00 := by
  cases h <;> cases v <;> rfl

theorem exec_inPortStatus {s : State} (hs : Safe s) :
    exec .inPortStatus s = .next { s with
      dev := { s.dev with acLatch := false, hRetrace := false, vRetrace := false }
      answer := .byte (if s.dev.vRetrace then 0x09 else if s.dev.hRetrace then 0x01 else 0x00) } := by
  rw [← statusByte_eq]
  exact complete_of_safe hs _ _

/-- Settles O36: the second read finds the flags and the latch clear, so it clears nothing more. -/
theorem statusPortRead : Obligations.StatusPortRead := fun _ hs => ⟨_, exec_inPortStatus hs, rfl, exec_inPortStatus hs⟩

/-- Settles O37: each signal completes with its flag's setter. -/
theorem retraceSignals : Obligations.RetraceSignals := fun _ hs => ⟨complete_of_safe hs _ _, complete_of_safe hs _ _⟩

end Sys2Proof.Proofs

/-! WriteMemory and ReadMemory byte by byte (R243, R247), and a write read back at its own address (R248, R249). -/

namespace Sys2Proof.Proofs

open Sys2Proof Sys2Proof.Machine Sys2Proof.Laws

/-! ### WriteMemory -/

theorem writeMemory_of_not_gatesOpen {d : Device} (h : ¬ WriteGatesOpen d) (a : Addr) (bytes : List Byte) :
    d.writeMemory a bytes = d := by
  by_cases hram : d.ramEnabled = true
  · exact writeMemory_of_mapMask_zero (by_contra fun hmask => h ⟨hram, hmask⟩) a bytes
  · exact writeMemory_of_ramDisabled (Bool.eq_false_iff.2 hram) a bytes

theorem writeMemory_wf {d : Device} (hd : d.planes.wf = true) (a : Addr) (bytes : List Byte) :
    (d.writeMemory a bytes).planes.wf = true := by
  obtain ⟨m, h, hm⟩ := writeMemory_planes d a bytes hd
  rw [h, Device.setPlanes_planes, hm]

/-- Settles O40: with a gate closed the call is the identity, else it stores byte after byte. -/
theorem writeMemoryStoresAndFrame : Obligations.WriteMemoryStoresAndFrame := by
  intro s a bytes hs hd
  refine ⟨_, exec_memw a bytes hs, ?_, writeMemory_wf hd a bytes, fun k o ho hno => ?_, fun hopen k o i hi hit hlast => ?_⟩
  · exact congrArg (fun d => { s with dev := d, answer := .none }) (writeMemory_update s.dev a bytes)
  · by_cases hopen : WriteGatesOpen s.dev
    · rw [writeMemory_of_gatesOpen hopen, writeBytes_frame bytes s.dev a k o hd ho (hno hopen)]
    · rw [writeMemory_of_not_gatesOpen hopen]
  · rw [writeMemory_of_gatesOpen hopen, writeBytes_last bytes s.dev a k o i hi hd hit hlast]

/-! ### ReadMemory -/

theorem readMemory_of_ramEnabled {d : Device} (h : d.ramEnabled = true) (a : Addr) (length : Nat) (buf : List Byte) :
    d.readMemory a length buf = d.readBytes a length buf := if_neg (by simp [h])

theorem readMemory_length (d : Device) (a : Addr) (n : Nat) (buf : List Byte) : (d.readMemory a n buf).length = buf.length := by
  cases h : d.ramEnabled with
  | false => rw [readMemory_of_ramDisabled h]
  | true => rw [readMemory_of_ramEnabled h, readBytes_length]

theorem readMemory_getElem? (d : Device) (a : Addr) (buf : List Byte) {i : Nat} (hi : i < buf.length) :
    (d.readMemory a buf.length buf)[i]? =
      some (if d.ramEnabled = true then d.readByte (a + BitVec.ofNat 32 i) buf[i] else buf[i]) := by
  cases h : d.ramEnabled with
  | false => rw [readMemory_of_ramDisabled h, List.getElem?_eq_getElem hi, if_neg Bool.false_ne_true]
  | true =>
    rw [readMemory_of_ramEnabled h, List.getElem?_eq_getElem (by rwa [readBytes_length]),
      readBytes_get d buf.length a buf i hi hi, if_pos rfl]

/-- Settles O42: the loop's byte at each position, behind the RAM gate. -/
theorem readMemoryReturnsEachByte : Obligations.ReadMemoryReturnsEachByte := by
  intro s a buf hs
  refine ⟨_, exec_memr a buf.length buf hs, readMemory_length _ _ _ _, fun i hi => ?_⟩
  rw [readMemory_getElem? s.dev a buf hi, Device.readByte, ite_and]

/-! ### A byte read back (R248, R249) -/

theorem readOffset_lt (d : Device) (rel : Nat) : d.readOffset rel < Config.bankSize := writeOffset_lt d rel

/-- The window's base has its plane bits clear, so an address and its relative offset select the same plane. -/
theorem relOffset_mod_four {d : Device} {a : Addr} (hw : d.inWindow a = true) : d.relOffset a % 4 = a.toNat % 4 := by
  have hbase : ∀ w, (Config.window w).1 % 4 = 0 := by decide
  have hmod : d.window.1 % 4 = 0 := hbase d.windowSel
  have hle : d.window.1 ≤ a.toNat := by
    simp only [Device.inWindow, Bool.and_eq_true, decide_eq_true_eq] at hw
    exact hw.1
  rw [Device.relOffset]
  omega

/-- The read translation is one of the write's lanes: chain-4 and odd/even let the plane a read selects through (R91, R92, R95). -/
theorem hits_readPlane_iff {d : Device} {a : Addr} (hw : d.inWindow a = true) :
    Hits d a (d.readPlane (d.relOffset a)) (d.readOffset (d.relOffset a)) ↔
      d.mapMask.getLsbD (d.readPlane (d.relOffset a)) = true := by
  have hk : d.readPlane (d.relOffset a) < 4 := readPlane_lt d _
  have hrel := relOffset_mod_four hw
  have hchain : d.chain4 = true → a.toNat % 4 = d.readPlane (d.relOffset a) := by
    intro h
    rw [Device.readPlane, if_pos h, hrel]
  have hodd : d.oddEven = true → a.toNat % 2 = d.readPlane (d.relOffset a) % 2 := by
    intro h
    rw [Device.readPlane]
    simp only [h, if_true]
    split_ifs <;> omega
  rw [hits_iff_of_inWindow hw hk, mapMask_getLsbD d hk]
  exact ⟨fun ⟨_, hmask, _⟩ => hmask, fun hmask => ⟨rfl, hmask, hchain, hodd⟩⟩

/-- A read of one byte inside the window, with RAM enabled. -/
theorem readMemory_singleton {d : Device} {a : Addr} (hram : d.ramEnabled = true) (hw : d.inWindow a = true) (x : Byte) :
    d.readMemory a 1 [x] = [d.planeByte (d.readPlane (d.relOffset a)) (d.readOffset (d.relOffset a))] := by
  rw [readMemory_of_ramEnabled hram, Device.readBytes, Device.readBytes, Device.readByte, if_pos hw]

/-- A write leaves the registers, so the read's translation. -/
theorem readMemory_singleton_writeMemory {d : Device} {a : Addr} (hram : d.ramEnabled = true) (hw : d.inWindow a = true)
    (bytes : List Byte) (x : Byte) :
    (d.writeMemory a bytes).readMemory a 1 [x] =
      [(d.writeMemory a bytes).planeByte (d.readPlane (d.relOffset a)) (d.readOffset (d.relOffset a))] := by
  obtain ⟨m, h⟩ := writeMemory_setPlanes d a bytes
  rw [h]
  exact readMemory_singleton (d := d.setPlanes m) hram hw x

/-- Settles O43: the place the read selects is one the write stores to exactly when its mask bit is set. -/
theorem writeThenReadSameAddress : Obligations.WriteThenReadSameAddress := by
  classical
  intro s a b x hs hd hram hw
  have halive : Safe { s with dev := s.dev.writeMemory a [b], answer := .none } :=
    (congrArg Device.fatal (writeMemory_update s.dev a [b])).trans hs
  refine ⟨_, exec_memw a [b] hs, ?_⟩
  rw [exec_memr a 1 [x] halive, readMemory_singleton_writeMemory hram hw,
    writeMemory_singleton_planeByte hd hram a b _ (readOffset_lt s.dev _)]
  simp only [hits_readPlane_iff hw]

end Sys2Proof.Proofs

/-! The mode resolver behind RES (R260 to R266), the take, the surface read and the cursor (R334 to R338), and the seed (R396). -/

namespace Sys2Proof.Proofs

open Sys2Proof Sys2Proof.Machine Sys2Proof.Laws

/-! ### The fields as remainders of their registers (R29) -/

theorem maxScan_eq (d : Device) : d.maxScan = d.crtc[0x09].toNat % 32 := by
  simp [Device.maxScan, BitVec.extractLsb'_toNat]

theorem cursorStart_eq (d : Device) : d.cursorStart = d.crtc[0x0A].toNat % 64 := by
  simp [Device.cursorStart, BitVec.extractLsb'_toNat]

theorem cursorEnd_eq (d : Device) : d.cursorEnd = d.crtc[0x0B].toNat % 32 := by
  simp [Device.cursorEnd, BitVec.extractLsb'_toNat]

theorem cursorSkew_eq (d : Device) : d.cursorSkew = d.crtc[0x0B].toNat / 32 % 4 := by
  simp [Device.cursorSkew, BitVec.extractLsb'_toNat, Nat.shiftRight_eq_div_pow]

theorem cursorLoc_eq (d : Device) : d.cursorLoc = d.crtc[0x0E].toNat * 256 + d.crtc[0x0F].toNat := by
  rw [Device.cursorLoc, BitVec.toNat_append, ← Nat.shiftLeft_add_eq_or_of_lt (BitVec.isLt _), Nat.shiftLeft_eq]

/-! ### RES -/

theorem vertEnd_eq (d : Device) :
    d.vertEnd = d.crtc[0x12].toNat + (if d.crtc[0x07].getLsbD 1 then 256 else 0) + (if d.crtc[0x07].getLsbD 6 then 512 else 0) := by
  simp only [Device.vertEnd, Device.vertDispEnd, Device.vde8, Device.vde9]
  cases d.crtc[0x07].getLsbD 1 <;> cases d.crtc[0x07].getLsbD 6 <;> rfl

/-- Settles O44: the resolver's height and width, with their fields written as the registers' bits. -/
theorem currentResolution : Obligations.CurrentResolution := by
  intro s hs
  refine ⟨s.dev.width, s.dev.height, complete_of_safe hs _ _, ?_, ?_⟩
  · rw [Device.height, vertEnd_eq, maxScan_eq]
  · simp only [Device.width, Device.gfxWidth, Device.isText, Device.noAlpha, Bool.not_eq_true']
    rfl

/-! ### The take and the surface -/

/-- Settles O46: the second take finds the empty region the first one left. -/
theorem takeDirtyRegion : Obligations.TakeDirtyRegion := fun _ hs =>
  ⟨_, complete_of_safe hs _ _, rfl, complete_of_safe hs _ _⟩

theorem exec_surf_none {s : State} (hs : Safe s) : exec (.surf none) s = .next { s with answer := .surface s.dev.surface } := by
  simp only [exec, execSurf, ifAlive_of_alive hs, complete_of_safe hs]

theorem exec_surf_of_element {s : State} (hs : Safe s) {row col : Nat} {a : Answer} (h : s.dev.surface.element row col = some a) :
    exec (.surf (some (row, col))) s = .next { s with answer := a } := by
  simp only [exec, execSurf, ifAlive_of_alive hs, h, complete_of_safe hs]

theorem exec_surf_of_outside {s : State} (hs : Safe s) {row col : Nat} (h : s.dev.surface.element row col = none) :
    exec (.surf (some (row, col))) s = .refused .outsideGrid := by
  simp only [exec, execSurf, ifAlive_of_alive hs, h]

/-- Settles O47, by the three kinds of surface and the two sides of the grid's bounds. -/
theorem readSurface : Obligations.ReadSurface := by
  intro s hs
  refine ⟨exec_surf_none hs, fun row col => ⟨fun h => ?_, fun w h cells hx _ => ⟨fun c hrow hcol hc => ?_, fun hout => ?_⟩,
    fun w h pixels hx _ => ⟨fun p hrow hcol hp => ?_, fun hout => ?_⟩⟩⟩
  · exact exec_surf_of_element hs (by rw [h]; rfl)
  · exact exec_surf_of_element hs (by rw [hx, Surface.element, if_pos ⟨hrow, hcol⟩, hc]; rfl)
  · exact exec_surf_of_outside hs (by rw [hx, Surface.element, if_neg (by omega)])
  · exact exec_surf_of_element hs (by rw [hx, Surface.element, if_pos ⟨hrow, hcol⟩, hp]; rfl)
  · exact exec_surf_of_outside hs (by rw [hx, Surface.element, if_neg (by omega)])

/-! ### The cursor -/

theorem cursorVisible_eq (d : Device) :
    d.cursorVisible = decide (d.crtc[0x0A].toNat % 64 < d.crtc[0x0B].toNat % 32) := by
  rw [Device.cursorVisible, cursorStart_eq, cursorEnd_eq]

theorem cursorSize_eq (d : Device) :
    d.cursorSize = if d.cursorVisible then
      some ⟨d.crtc[0x0B].toNat % 32 - d.crtc[0x0A].toNat % 64, d.crtc[0x09].toNat % 32 + 1⟩ else none := by
  rw [Device.cursorSize, cursorStart_eq, cursorEnd_eq, maxScan_eq]

theorem cursorLocation_eq (d : Device) :
    d.cursorLocation = d.crtc[0x0E].toNat * 256 + d.crtc[0x0F].toNat + d.crtc[0x0B].toNat / 32 % 4 := by
  rw [Device.cursorLocation, cursorLoc_eq, cursorSkew_eq]

theorem stride_eq_zero_iff (d : Device) : d.stride = 0 ↔ d.crtc[0x13].toNat = 0 := by
  simp [Device.stride, Config.strideMul]

/-- Settles O48, by whether the stride register is 0. -/
theorem cursorInfo : Obligations.CursorInfo := by
  intro s hs
  refine ⟨s.dev.cursorVisible, s.dev.cursorSize, cursorVisible_eq _, cursorSize_eq _, fun h => ?_, fun h => ?_⟩
  · refine ⟨s.dev.cursorLocation, ?_, cursorLocation_eq _⟩
    rw [exec, execCursor, if_neg (mt (stride_eq_zero_iff _).1 h), complete_of_safe hs]
    rfl
  · rw [exec, execCursor, if_pos ((stride_eq_zero_iff _).2 h), ifAlive_of_alive hs]

/-! ### The seed -/

/-- Settles O49: the load is its seven setters. -/
theorem loadSeed : Obligations.LoadSeed := fun _ _ hs => complete_of_safe hs _ _

end Sys2Proof.Proofs

/-! RefreshDisplay (R280 to R309): one pass over the surface there is, or over a new one, or the fatal condition. `d.reallocNeeded =
false` is the condition under which a refresh of `d` reallocates nothing; a device just reallocated, or just passed over, meets it. -/

namespace Sys2Proof.Proofs

open Sys2Proof Sys2Proof.Machine Sys2Proof.Laws

/-! ### The three outcomes -/

theorem reallocNeeded_eq_false_iff (d : Device) :
    d.reallocNeeded = false ↔ d.modeChanged = false ∧ d.surface.geometry = some d.geometry := by
  simp [Device.reallocNeeded]

theorem exec_refresh {s : State} (hs : Safe s) :
    exec .refresh s = .next { s with
      dev := (s.dev.refresh (Config.allocOk s.draws s.dev.geometry)).1
      answer := (s.dev.refresh (Config.allocOk s.draws s.dev.geometry)).2
      draws := if s.dev.reallocNeeded then s.draws + 1 else s.draws } :=
  execRefresh_next.2 ⟨hs, rfl⟩

/-- Nothing to reallocate: the pass over the surface there is. -/
theorem exec_refresh_of_not_needed {s : State} (hs : Safe s) (hn : s.dev.reallocNeeded = false) :
    exec .refresh s = .next { s with dev := s.dev.renderPass.endRefresh, answer := .none } := by
  rw [exec_refresh hs, Device.refresh, hn]
  rfl

/-- A reallocation that succeeds: the pass over the new surface. -/
theorem exec_refresh_of_allocated {s : State} (hs : Safe s) (hn : s.dev.reallocNeeded = true)
    (hok : Config.allocOk s.draws s.dev.geometry = true) :
    exec .refresh s =
      .next { s with dev := s.dev.reallocate.renderPass.endRefresh, answer := .none, draws := s.draws + 1 } := by
  rw [exec_refresh hs, Device.refresh, hn, hok]
  rfl

/-- A reallocation that fails (R364). -/
theorem exec_refresh_of_not_allocated {s : State} (hs : Safe s) (hn : s.dev.reallocNeeded = true)
    (hok : Config.allocOk s.draws s.dev.geometry = false) :
    exec .refresh s = .next { s with dev := s.dev.raiseFatal, answer := .fatalSurfaceAlloc, draws := s.draws + 1 } := by
  rw [exec_refresh hs, Device.refresh, hn, hok]
  rfl

/-- Settles O50: the refresh of a device is its update of the eight fields. -/
theorem refreshCompletesAndFrame : Obligations.RefreshCompletesAndFrame := fun s hs =>
  ⟨_, exec_refresh hs, rfl, refresh_update s.dev _⟩

/-! ### The pass and the end of the refresh -/

theorem reallocate_not_needed (d : Device) : d.reallocate.reallocNeeded = false :=
  (reallocNeeded_eq_false_iff _).2 ⟨rfl, blank_geometry d.geometry⟩

/-- What the pass and the end of the refresh leave in every field but the grid and the dirty region, where nothing is to be
reallocated. -/
structure PassLeaves (d d' : Device) : Prop where
  fatal : d'.fatal = d.fatal
  modeChanged : d'.modeChanged = false
  geometry : d'.surface.geometry = some d.geometry
  cursorMoved : d'.cursorMoved = false
  paletteChanged : d'.paletteChanged = false
  repaintPending : d'.repaintPending = (d.repaintPending || decide (d'.dirty ≠ .empty))
  unimplSeen : d'.unimplSeen = (d.unimplSeen || (d.noAlpha && !d.shift256 && d.shiftReg))

theorem passLeaves {d : Device} (hn : d.reallocNeeded = false) : PassLeaves d d.renderPass.endRefresh := by
  obtain ⟨hmode, hgeom⟩ := (reallocNeeded_eq_false_iff d).1 hn
  obtain ⟨-, -, -, -, -, hm, hf, hr⟩ := renderPass_regs d
  constructor
  case fatal => rw [Device.endRefresh_fatal, hf]
  case modeChanged => rw [Device.endRefresh_modeChanged, hm, hmode]
  case geometry => rw [Device.endRefresh_surface, renderPass_geometry, hgeom]
  case cursorMoved => rw [Device.endRefresh_cursorMoved]
  case paletteChanged => rw [Device.endRefresh_paletteChanged]
  case repaintPending => rw [endRefresh_eq, hr]
  case unimplSeen =>
    rw [Device.endRefresh_unimplSeen, renderPass_unimplSeen hgeom, Device.geometry, Device.isText, Bool.not_not]

/-- Settles O51: the one outcome of a refresh that reallocates nothing. -/
theorem refreshWithoutReallocation : Obligations.RefreshWithoutReallocation := by
  intro s hs hmode hgeom
  have hn := (reallocNeeded_eq_false_iff s.dev).2 ⟨hmode, hgeom⟩
  have hp := passLeaves hn
  exact ⟨_, exec_refresh_of_not_needed hs hn, rfl, rfl, hp.fatal.trans hs, hp.modeChanged, hp.geometry, hp.cursorMoved,
    hp.paletteChanged, hp.repaintPending, hp.unimplSeen⟩

/-! ### The unimplemented path (R302) -/

/-- On path `Interleaved` the pass over a graphics surface sets the marker and nothing else. -/
theorem renderPass_of_shiftReg {d : Device} (hgeom : d.surface.geometry = some d.geometry) (halpha : d.noAlpha = true)
    (h256 : d.shift256 = false) (hreg : d.shiftReg = true) : d.renderPass = d.setUnimplSeen true := by
  have hpath : d.pixelBy d.decodePath = none := (pixelBy_eq_none d _).2 ((decodePath_eq_interleaved d).2 ⟨h256, hreg⟩)
  cases hx : d.surface with
  | none => simp [hx, Surface.geometry] at hgeom
  | text w h cells => simp [hx, Surface.geometry, Device.geometry, Device.isText, halpha] at hgeom
  | gfx w h pixels => exact renderPass_of_interleaved hx hpath

/-- A pass that sets the marker alone leaves the picture as it was. -/
theorem endRefresh_picture_of_marked {d : Device} (h : d.renderPass = d.setUnimplSeen true) :
    d.renderPass.endRefresh.surface = d.surface ∧ d.renderPass.endRefresh.dirty = d.dirty ∧
      d.renderPass.endRefresh.unimplSeen = true := by
  simp [h]

/-- Settles O58: the pass is the marker's setter. -/
theorem interleavedRefreshKeepsPixels : Obligations.InterleavedRefreshKeepsPixels := by
  intro s hs hmode hgeom halpha h256 hreg
  have hn := (reallocNeeded_eq_false_iff s.dev).2 ⟨hmode, hgeom⟩
  obtain ⟨hsurface, hdirty, hmarked⟩ := endRefresh_picture_of_marked (renderPass_of_shiftReg hgeom halpha h256 hreg)
  exact ⟨_, exec_refresh_of_not_needed hs hn, hsurface, hdirty, hmarked, (passLeaves hn).fatal.trans hs⟩

/-! ### The dirty region (R309) -/

/-- Settles O59: the end of the refresh keeps the pass's region. -/
theorem refreshDirtyRegionIsMinimal : Obligations.RefreshDirtyRegionIsMinimal := by
  intro s t hs hmode hgeom h y
  obtain ⟨halive, -⟩ := execRefresh_next.1 h
  rw [exec_refresh_of_not_needed halive ((reallocNeeded_eq_false_iff s.dev).2 ⟨hmode, hgeom⟩)] at h
  obtain rfl := Host.Outcome.next.inj h
  have hlaw := renderPass_le_iff hs.surface (ordered_of_within hs.dirty) hgeom y
  rw [← Device.endRefresh_dirty, ← Device.endRefresh_surface] at hlaw
  exact hlaw

/-! ### Reallocation -/

/-- The zero element of the surface a device resolves to (R284). -/
theorem reallocate_element (d : Device) {i j : Nat} (hi : i < d.height) (hj : j < d.width) :
    d.reallocate.surface.element i j = some (if d.noAlpha then .pixel 0 else .cell ⟨0, 0⟩) := by
  rw [Device.reallocate_surface, blank_element d.geometry hi hj]
  by_cases h : d.noAlpha = true <;> simp [Device.geometry, Device.isText, h]

/-- The region after a refresh with a new surface: around the elements that are not zero, and no larger. -/
theorem reallocate_pass_le_iff (d : Device) (y : DirtyRegion) :
    RegionLe d.reallocate.renderPass.endRefresh.dirty y ↔
      ∀ i j, i < d.height → j < d.width →
        d.reallocate.renderPass.endRefresh.surface.element i j ≠ some (if d.noAlpha then .pixel 0 else .cell ⟨0, 0⟩) →
          y.contains i j = true := by
  have hlaw := renderPass_le_iff (d := d.reallocate) (blank_wf _) trivial (blank_geometry d.geometry) y
  rw [Device.endRefresh_dirty, Device.endRefresh_surface, hlaw]
  constructor
  · intro ⟨_, H⟩ i j hi hj hne
    exact H i j hi hj (by rwa [reallocate_element d hi hj])
  · intro H
    exact ⟨regionLe_empty y, fun i j hi hj hne => H i j hi hj (by rwa [reallocate_element d hi hj] at hne)⟩

theorem reallocate_pass_wf (d : Device) : d.reallocate.renderPass.endRefresh.surface.wf = true := by
  rw [Device.endRefresh_surface]
  exact renderPass_wf (blank_wf _)

theorem reallocate_pass_ordered (d : Device) : Ordered d.reallocate.renderPass.endRefresh.dirty := by
  rw [Device.endRefresh_dirty]
  exact renderPass_ordered (d := d.reallocate) trivial

/-- On path `Interleaved` a new surface keeps its zero pixels. -/
theorem reallocate_pass_element_of_shiftReg {d : Device} (halpha : d.noAlpha = true) (h256 : d.shift256 = false)
    (hreg : d.shiftReg = true) {i j : Nat} (hi : i < d.height) (hj : j < d.width) :
    d.reallocate.renderPass.endRefresh.surface.element i j = some (.pixel 0) := by
  rw [Device.endRefresh_surface, renderPass_of_shiftReg (d := d.reallocate) (blank_geometry d.geometry) halpha h256 hreg,
    Device.setUnimplSeen_surface, reallocate_element d hi hj, if_pos halpha]

/-- Settles O52, by the environment's answer. -/
theorem refreshReallocates : Obligations.RefreshReallocates := by
  intro s hs hedge
  have hn := (reallocNeeded_iff s.dev).2 hedge
  by_cases hok : Config.allocOk s.draws s.dev.geometry = true
  · have hp := passLeaves (reallocate_not_needed s.dev)
    refine ⟨_, exec_refresh_of_allocated hs hn hok, rfl, ?_⟩
    rw [if_pos hok]
    exact ⟨rfl, hp.fatal.trans hs, hp.modeChanged, hp.geometry, hp.cursorMoved, hp.paletteChanged, hp.repaintPending,
      hp.unimplSeen, reallocate_pass_wf s.dev, reallocate_pass_ordered s.dev, reallocate_pass_le_iff s.dev,
      fun halpha h256 hreg _ _ hi hj => reallocate_pass_element_of_shiftReg halpha h256 hreg hi hj⟩
  · refine ⟨_, exec_refresh_of_not_allocated hs hn (Bool.eq_false_iff.2 hok), rfl, ?_⟩
    rw [if_neg hok]
    exact ⟨rfl, raiseFatal_eq s.dev⟩

/-! ### What the pass reads (R292) -/

/-- The planes and the registers that the pass reads are the same in both devices. -/
structure SameSource (d d' : Device) : Prop where
  planes : d'.planes = d.planes
  gc : d'.gc = d.gc
  crtc : d'.crtc = d.crtc
  ac : d'.ac = d.ac

theorem sameSource_pass (d : Device) : SameSource d d.renderPass.endRefresh := by
  obtain ⟨-, hgc, hcrtc, hac, hplanes, -⟩ := renderPass_regs d
  constructor
  case planes => rw [Device.endRefresh_planes, hplanes]
  case gc => rw [Device.endRefresh_gc, hgc]
  case crtc => rw [Device.endRefresh_crtc, hcrtc]
  case ac => rw [Device.endRefresh_ac, hac]

/-- Every fetch of the pass, by R288 and R290. -/
theorem fetchByte_rowAddr (d : Device) (k i c : Nat) :
    d.fetchByte k (d.rowAddr i + c) = d.planeByte k ((d.startAddr + i * d.stride + c) * d.unitSize % 65536) := rfl

section
variable {d d' : Device}

theorem SameSource.startAddr (h : SameSource d d') : d'.startAddr = d.startAddr :=
  congrArg (fun r : Vector Byte Config.crtcCount => (r[0x0C] ++ r[0x0D]).toNat) h.crtc

theorem SameSource.stride (h : SameSource d d') : d'.stride = d.stride :=
  congrArg (fun r : Vector Byte Config.crtcCount => r[0x13].toNat * Config.strideMul) h.crtc

theorem SameSource.unitSize (h : SameSource d d') : d'.unitSize = d.unitSize :=
  congrArg (fun r : Vector Byte Config.crtcCount => if r[0x14].getLsbD 6 then 4 else if r[0x17].getLsbD 6 then 1 else 2) h.crtc

theorem SameSource.fetchByte (h : SameSource d d') (k i c : Nat) :
    d'.fetchByte k (d'.rowAddr i + c) = d.fetchByte k (d.rowAddr i + c) := by
  rw [fetchByte_rowAddr, fetchByte_rowAddr, Device.planeByte, h.planes, h.startAddr, h.stride, h.unitSize]
  rfl

theorem SameSource.shift256 (h : SameSource d d') : d'.shift256 = d.shift256 :=
  congrArg (fun r : Vector Byte Config.gcCount => r[5].getLsbD 6) h.gc

theorem SameSource.shiftReg (h : SameSource d d') : d'.shiftReg = d.shiftReg :=
  congrArg (fun r : Vector Byte Config.gcCount => r[5].getLsbD 5) h.gc

theorem SameSource.color8 (h : SameSource d d') : d'.color8 = d.color8 :=
  congrArg (fun r : Vector Byte Config.acCount => r[0x10].getLsbD 6) h.ac

theorem SameSource.decodePath (h : SameSource d d') : d'.decodePath = d.decodePath := by
  rw [Device.decodePath, h.shift256, h.shiftReg, h.color8]
  rfl

theorem SameSource.textCell (h : SameSource d d') : d'.textCell = d.textCell := by
  funext i j
  simp only [Device.textCell, h.fetchByte]

theorem SameSource.pixelBy (h : SameSource d d') : d'.pixelBy d'.decodePath = d.pixelBy d.decodePath := by
  rw [h.decodePath]
  cases d.decodePath with
  | shift256x8 => exact congrArg some (funext₂ fun i j => h.fetchByte _ i _)
  | shift256x4 =>
    refine congrArg some (funext₂ fun i j => ?_)
    simp only [Device.shift256x4Pixel, Device.shift256x4PixelBy, h.fetchByte]
  | interleaved => rfl
  | planar8 =>
    refine congrArg some (funext₂ fun i j => ?_)
    simp only [Device.planar8Pixel, h.fetchByte]
  | planar4 =>
    refine congrArg some (funext₂ fun i j => ?_)
    simp only [Device.planar4Pixel, h.fetchByte]

end

/-! ### A refresh that did not fail -/

/-- A refresh after which the session goes on ends with a pass over a device that has nothing to reallocate: the one it was issued at,
or that one reallocated. -/
theorem refresh_passed {s t : State} (h : exec .refresh s = .next t) (hf : t.dev.fatal = false) :
    ∃ e, (e = s.dev ∨ e = s.dev.reallocate) ∧ e.reallocNeeded = false ∧ t.dev = e.renderPass.endRefresh ∧ t.answer = .none := by
  obtain ⟨-, rfl⟩ := execRefresh_next.1 h
  obtain ⟨hn, e⟩ | ⟨-, -, e⟩ | ⟨-, -, e⟩ := refresh_cases s.dev (Config.allocOk s.draws s.dev.geometry)
  · exact ⟨s.dev, .inl rfl, hn, congrArg Prod.fst e, congrArg Prod.snd e⟩
  · exact ⟨s.dev.reallocate, .inr rfl, reallocate_not_needed s.dev, congrArg Prod.fst e, congrArg Prod.snd e⟩
  · simp [e] at hf

/-! ### The second refresh -/

/-- A row that holds the new elements is not changed again. -/
theorem renderRow_renderRow {α : Type} [DecidableEq α] (new : Nat → α) (i : Nat) (y : DirtyRegion) :
    ∀ (j : Nat) (row : List α) (x : DirtyRegion),
      renderRow new i j (renderRow new i j row x).1 y = ((renderRow new i j row x).1, y)
  | _, [], _ => rfl
  | j, _ :: row, _ => by simp [renderRow, renderRow_renderRow new i y (j + 1) row]

theorem renderRows_renderRows {α : Type} [DecidableEq α] (new : Nat → Nat → α) (y : DirtyRegion) :
    ∀ (i : Nat) (rows : List (List α)) (x : DirtyRegion),
      renderRows new i (renderRows new i rows x).1 y = ((renderRows new i rows x).1, y)
  | _, [], _ => rfl
  | i, _ :: rows, _ => by simp [renderRows, renderRow_renderRow, renderRows_renderRows new y (i + 1) rows]

theorem renderPass_of_text_fixed {d : Device} {w h : Nat} {cells : List (List TextCell)} (hx : d.surface = .text w h cells)
    (hfix : renderRows d.textCell 0 cells d.dirty = (cells, d.dirty)) : d.renderPass = d := by
  rw [renderPass_of_text hx, hfix, ← hx]
  rfl

theorem renderPass_of_gfx_fixed {d : Device} {w h : Nat} {pixels : List (List Byte)} {f : Nat → Nat → Byte}
    (hx : d.surface = .gfx w h pixels) (hp : d.pixelBy d.decodePath = some f)
    (hfix : renderRows f 0 pixels d.dirty = (pixels, d.dirty)) : d.renderPass = d := by
  rw [renderPass_of_gfx hx hp, hfix, ← hx]
  rfl

theorem renderPass_of_interleaved_fixed {d : Device} {w h : Nat} {pixels : List (List Byte)} (hx : d.surface = .gfx w h pixels)
    (hp : d.pixelBy d.decodePath = none) (hu : d.unimplSeen = true) : d.renderPass = d := by
  rw [renderPass_of_interleaved hx hp, ← hu]
  rfl

/-- A second pass finds every element at its new value, and the marker set where it sets it. -/
theorem renderPass_after_pass (d : Device) : d.renderPass.endRefresh.renderPass = d.renderPass.endRefresh := by
  have hsource := sameSource_pass d
  obtain ⟨hx, h⟩ | ⟨w, h', cells, hx, h⟩ | ⟨w, h', pixels, hx, hp, h⟩ | ⟨w, h', pixels, f, hx, hp, h⟩ := renderPass_cases d
  · exact renderPass_of_none (by rw [h, Device.endRefresh_surface, hx])
  · refine renderPass_of_text_fixed (w := w) (h := h') (cells := (renderRows d.textCell 0 cells d.dirty).1) ?_ ?_
    · rw [h]
      rfl
    · rw [hsource.textCell, renderRows_renderRows]
  · refine renderPass_of_interleaved_fixed (w := w) (h := h') (pixels := pixels) ?_ (hsource.pixelBy.trans hp) ?_
    · rw [h, Device.endRefresh_surface, Device.setUnimplSeen_surface, hx]
    · rw [h, Device.endRefresh_unimplSeen, Device.setUnimplSeen_unimplSeen]
  · refine renderPass_of_gfx_fixed (w := w) (h := h') (pixels := (renderRows f 0 pixels d.dirty).1) ?_ (hsource.pixelBy.trans hp) ?_
    · rw [h]
      rfl
    · rw [renderRows_renderRows]

theorem endRefresh_endRefresh (d : Device) : d.endRefresh.endRefresh = d.endRefresh := by
  simp only [endRefresh_eq, Bool.or_assoc, Bool.or_self]

theorem geometry_after_pass (d : Device) : d.renderPass.endRefresh.geometry = d.geometry := by
  rw [renderPass_update]
  rfl

/-- Settles O60: after a pass there is nothing to reallocate, and a second pass is the identity. -/
theorem secondRefreshChangesNothing : Obligations.SecondRefreshChangesNothing := by
  intro s t h hf
  obtain ⟨e, -, hn, hdev, hanswer⟩ := refresh_passed h hf
  have hp := passLeaves hn
  have hnt : t.dev.reallocNeeded = false := by
    rw [reallocNeeded_eq_false_iff, hdev, geometry_after_pass]
    exact ⟨hp.modeChanged, hp.geometry⟩
  have hagain : t.dev.renderPass.endRefresh = t.dev := by
    rw [hdev, renderPass_after_pass, endRefresh_endRefresh]
  rw [exec_refresh_of_not_needed hf hnt, hagain, ← hanswer]

end Sys2Proof.Proofs

/-! What a refresh that did not fail shows (R296, R300 to R304): the new element at every row and column, path by path. -/

namespace Sys2Proof.Proofs

open Sys2Proof Sys2Proof.Machine Sys2Proof.Laws

/-! ### Every element after the pass -/

theorem renderPass_element_text {d : Device} {g : Geometry} (hw : d.surface.wf = true) (hg : d.surface.geometry = some g)
    (ht : g.isText = true) {i j : Nat} (hi : i < g.height) (hj : j < g.width) :
    d.renderPass.surface.element i j = some (.cell (d.textCell i j)) := by
  cases hx : d.surface with
  | none => simp [hx, Surface.geometry] at hg
  | gfx w h pixels =>
    rw [hx] at hg
    obtain rfl := Option.some.inj hg
    exact absurd ht Bool.false_ne_true
  | text w h cells =>
    rw [hx] at hg hw
    obtain rfl := Option.some.inj hg
    obtain ⟨hlen, hwidth⟩ := surface_wf_text.1 hw
    have hcell := renderRows_get d.textCell w 0 cells d.dirty hwidth i j (hlen ▸ hi) hj
    rw [renderPass_of_text hx, Device.setDirty_surface, Device.setSurface_surface, Surface.element, if_pos ⟨hi, hj⟩, hcell,
      Nat.zero_add]
    rfl

theorem renderPass_element_gfx {d : Device} {g : Geometry} {f : Nat → Nat → Byte} (hw : d.surface.wf = true)
    (hg : d.surface.geometry = some g) (ht : g.isText = false) (hf : d.pixelBy d.decodePath = some f) {i j : Nat}
    (hi : i < g.height) (hj : j < g.width) : d.renderPass.surface.element i j = some (.pixel (f i j)) := by
  cases hx : d.surface with
  | none => simp [hx, Surface.geometry] at hg
  | text w h cells =>
    rw [hx] at hg
    obtain rfl := Option.some.inj hg
    exact absurd ht.symm Bool.false_ne_true
  | gfx w h pixels =>
    rw [hx] at hg hw
    obtain rfl := Option.some.inj hg
    obtain ⟨hlen, hwidth⟩ := surface_wf_gfx.1 hw
    have hpixel := renderRows_get f w 0 pixels d.dirty hwidth i j (hlen ▸ hi) hj
    rw [renderPass_of_gfx hx hf, Device.setDirty_surface, Device.setSurface_surface, Surface.element, if_pos ⟨hi, hj⟩, hpixel,
      Nat.zero_add]
    rfl

/-! ### Every element after a refresh -/

theorem sameSource_reallocate (d : Device) : SameSource d d.reallocate := by
  constructor <;> simp

/-- The device a successful refresh passes over: it reads what the device before the refresh reads, and its surface is a grid of the
geometry resolved. -/
theorem refresh_passed_over_grid {s t : State} (hs : Inv s) (h : exec .refresh s = .next t) (hf : t.dev.fatal = false) :
    ∃ e : Device, SameSource s.dev e ∧ e.surface.wf = true ∧ e.surface.geometry = some s.dev.geometry ∧
      t.dev.surface = e.renderPass.surface := by
  obtain ⟨e, rfl | rfl, hn, hdev, -⟩ := refresh_passed h hf
  · refine ⟨s.dev, ⟨rfl, rfl, rfl, rfl⟩, hs.surface, ((reallocNeeded_eq_false_iff _).1 hn).2, ?_⟩
    rw [hdev, Device.endRefresh_surface]
  · refine ⟨s.dev.reallocate, sameSource_reallocate s.dev, blank_wf _, blank_geometry _, ?_⟩
    rw [hdev, Device.endRefresh_surface]

theorem refresh_element_text {s t : State} (hs : Inv s) (h : exec .refresh s = .next t) (hf : t.dev.fatal = false)
    (halpha : s.dev.noAlpha = false) {i j : Nat} (hi : i < s.dev.height) (hj : j < s.dev.width) :
    t.dev.surface.element i j = some (.cell (s.dev.textCell i j)) := by
  obtain ⟨e, hsource, hw, hg, hsurface⟩ := refresh_passed_over_grid hs h hf
  have ht : s.dev.geometry.isText = true := congrArg (!·) halpha
  rw [hsurface, renderPass_element_text hw hg ht hi hj, hsource.textCell]

theorem refresh_element_gfx {s t : State} (hs : Inv s) (h : exec .refresh s = .next t) (hf : t.dev.fatal = false)
    (halpha : s.dev.noAlpha = true) {f : Nat → Nat → Byte} (hp : s.dev.pixelBy s.dev.decodePath = some f) {i j : Nat}
    (hi : i < s.dev.height) (hj : j < s.dev.width) : t.dev.surface.element i j = some (.pixel (f i j)) := by
  obtain ⟨e, hsource, hw, hg, hsurface⟩ := refresh_passed_over_grid hs h hf
  have ht : s.dev.geometry.isText = false := congrArg (!·) halpha
  rw [hsurface, renderPass_element_gfx hw hg ht (hsource.pixelBy.trans hp) hi hj]

/-! ### Text and Shift-256 -/

/-- Settles O53: the cell of R296 at the fetch position of R288 and R290. -/
theorem refreshRendersText : Obligations.RefreshRendersText := by
  intro s t hs h hf halpha i j hi hj
  rw [refresh_element_text hs h hf halpha hi hj, Device.textCell, fetchByte_rowAddr, fetchByte_rowAddr]

/-- Settles O54: the path's pixel is one fetch. -/
theorem refreshRendersShift256x8 : Obligations.RefreshRendersShift256x8 := by
  intro s t hs h hf halpha h256 h8 i j hi hj
  have hp : s.dev.pixelBy s.dev.decodePath = some s.dev.shift256x8Pixel := by
    simp [Device.decodePath, h256, h8, Device.pixelBy]
  rw [refresh_element_gfx hs h hf halpha hp hi hj, Device.shift256x8Pixel, fetchByte_rowAddr]

/-- The path's pixel under the default map (decision D23): a byte of the interleaved planes, its high nibble first. -/
theorem shift256x4Pixel_eq (d : Device) (i j : Nat) :
    d.shift256x4Pixel i j =
      if j % 2 = 0 then d.fetchByte (j / 2 % 4) (d.rowAddr i + j / 8) >>> 4
      else d.fetchByte (j / 2 % 4) (d.rowAddr i + j / 8) &&& 0x0F := by
  simp [Device.shift256x4Pixel, Device.shift256x4PixelBy, Config.shift256Map, shift256x4Map, Nat.div_div_eq_div_mul]

theorem highNibble_toNat (b : Byte) : (b >>> 4).toNat = b.toNat / 16 := by
  rw [BitVec.toNat_ushiftRight, Nat.shiftRight_eq_div_pow]

theorem lowNibble_toNat (b : Byte) : (b &&& 0x0F).toNat = b.toNat % 16 := by
  rw [BitVec.toNat_and]
  exact Nat.and_two_pow_sub_one_eq_mod b.toNat 4

/-- Settles O55, by the parity of the column. -/
theorem refreshRendersShift256x4 : Obligations.RefreshRendersShift256x4 := by
  intro s t hs h hf halpha h256 h8 i j hi hj
  have hp : s.dev.pixelBy s.dev.decodePath = some s.dev.shift256x4Pixel := by
    simp [Device.decodePath, h256, h8, Device.pixelBy]
  refine ⟨_, _, refresh_element_gfx hs h hf halpha hp hi hj, rfl, ?_⟩
  rw [shift256x4Pixel_eq, fetchByte_rowAddr]
  split_ifs
  · exact highNibble_toNat _
  · exact lowNibble_toNat _

/-! ### The planar paths -/

/-- Bit `i` of a byte into which bit `k` has been put under a condition. -/
theorem getLsbD_putBit (c : Bool) (x : Byte) (k : Nat) {i : Nat} (hi : i < 8) :
    (if c = true then x ||| BitVec.twoPow 8 k else x).getLsbD i = (x.getLsbD i || (c && decide (i = k))) := by
  cases c <;> simp [hi, eq_comm]

theorem planar8Pixel_bits (d : Device) (i j : Nat) {k : Nat} (hk : k < 4) :
    (d.planar8Pixel i j).getLsbD k = (d.fetchByte k (d.rowAddr i + j / 4)).getLsbD ((3 - j % 4) * 2 + 1) ∧
    (d.planar8Pixel i j).getLsbD (k + 4) = (d.fetchByte k (d.rowAddr i + j / 4)).getLsbD ((3 - j % 4) * 2) := by
  simp only [Device.planar8Pixel, List.foldl_cons, List.foldl_nil, getLsbD_putBit _ _ _ (show k < 8 by omega),
    getLsbD_putBit _ _ _ (show k + 4 < 8 by omega)]
  interval_cases k <;> simp

theorem planar4Pixel_bit (d : Device) (i j : Nat) {k : Nat} (hk : k < 8) :
    (d.planar4Pixel i j).getLsbD k = (decide (k < 4) && (d.fetchByte k (d.rowAddr i + j / 8)).getLsbD (7 - j % 8)) := by
  simp only [Device.planar4Pixel, List.foldl_cons, List.foldl_nil, getLsbD_putBit _ _ _ hk]
  interval_cases k <;> simp

theorem planar4Pixel_lt (d : Device) (i j : Nat) : (d.planar4Pixel i j).toNat < 16 := by
  refine Nat.lt_pow_two_of_testBit (n := 4) _ fun k hk => ?_
  rw [BitVec.testBit_toNat]
  by_cases h8 : k < 8
  · rw [planar4Pixel_bit d i j h8, decide_eq_false (by omega), Bool.false_and]
  · exact BitVec.getLsbD_of_ge _ _ (by omega)

/-- Settles O56: the two bits each plane puts into the pixel. -/
theorem refreshRendersPlanar8 : Obligations.RefreshRendersPlanar8 := by
  intro s t hs h hf halpha h256 hreg h8 i j hi hj
  have hp : s.dev.pixelBy s.dev.decodePath = some s.dev.planar8Pixel := by
    simp [Device.decodePath, h256, hreg, h8, Device.pixelBy]
  refine ⟨_, refresh_element_gfx hs h hf halpha hp hi hj, fun k hk b hb => ?_⟩
  obtain ⟨hupper, hlower⟩ := planar8Pixel_bits s.dev i j hk
  rw [fetchByte_rowAddr, ← hb] at hupper hlower
  rw [hupper, hlower]
  exact ⟨congrArg b.getLsbD (by omega), congrArg b.getLsbD (by omega)⟩

/-- Settles O57: the one bit each plane puts into the pixel. -/
theorem refreshRendersPlanar4 : Obligations.RefreshRendersPlanar4 := by
  intro s t hs h hf halpha h256 hreg h8 i j hi hj
  have hp : s.dev.pixelBy s.dev.decodePath = some s.dev.planar4Pixel := by
    simp [Device.decodePath, h256, hreg, h8, Device.pixelBy]
  refine ⟨_, refresh_element_gfx hs h hf halpha hp hi hj, planar4Pixel_lt _ _ _, fun k hk => ?_⟩
  rw [planar4Pixel_bit s.dev i j (by omega), decide_eq_true hk, Bool.true_and, fetchByte_rowAddr]

end Sys2Proof.Proofs
